-- ==== Sys2Proof/Word.lean ====
section
/-! DEFINITION. The value types of the block: bytes, addresses, tick counts, event words (`00_scope.md` R5, R7;
`30_encoding.md` R90) and the type of a byte image. -/

namespace Sys2Proof

/-- `u8`: a data byte (R5 `DATA_BITS`). -/
abbrev Byte := BitVec 8

/-- `u16`: a logical address (R5 `ADDR_BITS`). -/
abbrev Addr := BitVec 16

/-- `i16`: the timer's tick counter, 16-bit two's complement (R5 `TICKS_BITS`, R26). -/
abbrev Count := BitVec 16

/-- The 28-bit serialization of one event (R90). -/
abbrev EventWord := BitVec 28

/-- An image of bytes by index (the MemoryImage R37, the backing store's bytes R35): a list of (index, byte) pairs in
the canonical form that `Memory.wf` states. -/
abbrev Memory := List Host.Cell

end Sys2Proof
end

