-- ==== Sys2Proof/Config.lean ====
section
/-! DEFINITION. The parameters of the block (`00_scope.md` R5, R6) as one record of plain data, and the free values:
opaque constants for what the spec leaves open. -/

namespace Sys2Proof

/-- `VARIANT` (R6, R101): the disk addressing variant, A "legacy", B "extended". -/
inductive Variant where
  | A
  | B
  deriving DecidableEq, Repr

/-- Which backing store stands behind the Disk Peripheral: the deterministic reference store of `43_disk.md` R229, or a
general store that satisfies R226 to R228 and may refuse any call (D31). -/
inductive StoreKind where
  | reference
  | general
  deriving DecidableEq, Repr

/-- The board's wiring (R98): entry i of `addrLine` is the physical line of logical address bit i, entry i of `dataLine`
the line of data bit i. -/
structure Wiring where
  nlines   : Nat
  addrLine : List Nat
  dataLine : List Nat
  deriving DecidableEq, Repr

/-- The electrical polarities (R6): the line level that stands for READ, for an opcode fetch, for an asserted
interrupt. -/
structure Polarity where
  read  : Bool
  sync  : Bool
  irq   : Bool
  deriving DecidableEq, Repr

/-- The open parameters of R6, but for the durations, which no rule reads (R343). -/
structure Config where
  /-- `VARIANT`. -/
  variant        : Variant
  /-- `DISK_WINDOW_LEN`. -/
  diskWindowLen  : Nat
  /-- `TIMER_WINDOW_LEN`. -/
  timerWindowLen : Nat
  /-- `MEM_ADDR_BITS`. -/
  memAddrBits    : Nat
  /-- `MEM_INIT`. -/
  memInit        : Memory
  /-- `NLINES`, `ADDR_LINE`, `DATA_LINE`. -/
  wiring         : Wiring
  /-- `RW_POLARITY`, `SYNC_POLARITY`, `IRQ_POLARITY`. -/
  polarity       : Polarity
  /-- `STORE_OPEN`. -/
  storeOpen      : Bool
  /-- The reference store of R229 or a general one (D31). -/
  storeKind      : StoreKind
  /-- `STORE_SIZE` (read only under the reference store). -/
  storeSize      : Nat
  /-- `STORE_INIT`. -/
  storeInit      : Memory
  /-- `STORE_WRITABLE` (read only under the reference store). -/
  storeWritable  : Bool
  /-- `STORE_INIT_POS`. -/
  storeInitPos   : Nat
  deriving DecidableEq, Repr

/-- The spec's example wiring `EXW` (`40_transceiver.md`): not the board's, which no source gives. -/
def Wiring.exw : Wiring where
  nlines := 32
  addrLine := [16, 17, 18, 19, 22, 23, 24, 25, 26, 27, 0, 1, 3, 4, 9, 10]
  dataLine := [2, 14, 7, 8, 6, 20, 21, 5]

/-- The parameter values that `State.reset` is built with. DESIGN CHOICE (unsafe): every field R6 leaves open has a value
named in notes/assumptions/1.md, 6.md, 7.md, 15.md and 16.md; the window lengths and `memAddrBits` are the spec's own
(D3, D5). Statements quantify over all configurations. -/
def Config.reference : Config where
  variant := .B
  diskWindowLen := 7
  timerWindowLen := 6
  memAddrBits := 16
  memInit := []
  wiring := Wiring.exw
  polarity := { read := true, sync := true, irq := true }
  storeOpen := true
  storeKind := .reference
  storeSize := 2048
  storeInit := []
  storeWritable := true
  storeInitPos := 0

/-- The byte a register holds where R330 says `any u8` (U11, U12): unknown for every draw. -/
opaque Config.freeByte : Nat → Byte

/-- The store position after a failed SEEK, or after a transfer a general store refused (U1, U4): any natural number. -/
opaque Config.freePos : Nat → Nat

/-- Whether the status after a reserved disk command is OK (U6): either. -/
opaque Config.freeOk : Nat → Bool

/-- Whether a general store accepts a seek (U2): draw number and offset. -/
opaque Config.seekAccepted : Nat → Nat → Bool

/-- Whether a general store has a byte for a read (U3): draw number and position. -/
opaque Config.readAccepted : Nat → Nat → Bool

/-- Whether a general store accepts a write (U3): draw number and position. -/
opaque Config.writeAccepted : Nat → Nat → Bool

end Sys2Proof
end

