-- ==== Sys2Proof/Machine/PortDecoder.lean ====
section
/-! DEFINITION. The Port Decoder (`41_port_decoder.md`) and the register layout of the two peripherals (`30_encoding.md`
R92, `43_disk.md` R233). -/

namespace Sys2Proof

/-- `DISK_BASE` (R5). -/
def diskBase : Addr := 0xFE60#16

/-- `TIMER_BASE` (R5). -/
def timerBase : Addr := 0xFE80#16

/-- `TIMER_NREG` (R5). -/
def timerNReg : Nat := 6

/-- `DiskConfig = (nparam, blockSize, dataOff, statusOff)` (R233, D29). -/
structure DiskConfig where
  nparam    : Nat
  blockSize : Nat
  dataOff   : Nat
  statusOff : Nat
  deriving DecidableEq, Repr

/-- The record of each variant (R92, R233). -/
def diskConfig : Variant → DiskConfig
  | .A => { nparam := 2, blockSize := 512, dataOff := 3, statusOff := 4 }
  | .B => { nparam := 4, blockSize := 512, dataOff := 5, statusOff := 6 }

/-- `DISK_NREG` (R5): the registers occupy offsets 0 to `DISK_NREG` - 1. -/
def diskNReg (v : Variant) : Nat := (diskConfig v).statusOff + 1

/-- The peripheral identifiers (R104). -/
inductive Peripheral where
  | disk
  | timer
  deriving DecidableEq, Repr

/-- What the Port Decoder answers (R150). -/
inductive Target where
  | memory
  | peripheral (id : Peripheral) (registerOffset : Byte)
  deriving DecidableEq, Repr

/-- `decode(address)` of R150, over the windows of R151 and R152. -/
def portDecode (c : Config) (a : Addr) : Target :=
  if diskBase.toNat ≤ a.toNat ∧ a.toNat < diskBase.toNat + c.diskWindowLen then
    .peripheral .disk (BitVec.ofNat 8 (a.toNat - diskBase.toNat))
  else if timerBase.toNat ≤ a.toNat ∧ a.toNat < timerBase.toNat + c.timerWindowLen then
    .peripheral .timer (BitVec.ofNat 8 (a.toNat - timerBase.toNat))
  else
    .memory

end Sys2Proof
end

