-- ==== Sys2Proof/Syntax.lean ====
section
/-! DEFINITION. The events the block reacts to: one constructor of `Instr` for each row of spec/opcode_table.json, in the
table's order. `sync` is the opcode-fetch flag of a bus cycle (R90, R265). -/

namespace Sys2Proof

/-- A bus cycle's direction and what the CPU drives with it (R91): a read drives no data. -/
inductive Access where
  | read
  | write (data : Byte)
  deriving DecidableEq, Repr

/-- One event of the block. A suffix `A` or `B` names the disk variant whose table row it is; `W` and `R` say write cycle
and read cycle. -/
inductive Instr where
  /-- INIT (R330). -/
  | init
  /-- TICK (R177). -/
  | tick
  /-- RESERVED_KIND (R90, R100): kind 11, not an event. -/
  | reservedKind
  /-- DISK_SELECT (R212). -/
  | diskSelect (sync : Bool)
  /-- DISK_SEEK (R213). -/
  | diskSeek (sync : Bool)
  /-- DISK_CMD_RESERVED (R214): data 0x02 to 0xFF. -/
  | diskCmdReserved (sync : Bool) (data : Byte)
  /-- DISK_COMMAND.R (R222). -/
  | diskCommandR (sync : Bool)
  /-- DISK_PARAM_0.W (R215). -/
  | diskParam0W (sync : Bool) (data : Byte)
  /-- DISK_PARAM_0.R (R223). -/
  | diskParam0R (sync : Bool)
  /-- DISK_PARAM_1.W (R216). -/
  | diskParam1W (sync : Bool) (data : Byte)
  /-- DISK_PARAM_1.R (R223). -/
  | diskParam1R (sync : Bool)
  /-- DISK_DATA.W at 0xFE63, variant A (R220). -/
  | diskDataWA (sync : Bool) (data : Byte)
  /-- DISK_DATA.R at 0xFE63, variant A (R219). -/
  | diskDataRA (sync : Bool)
  /-- DISK_STATUS.R at 0xFE64, variant A (R221). -/
  | diskStatusRA (sync : Bool)
  /-- DISK_STATUS.W at 0xFE64, variant A (R224). -/
  | diskStatusWA (sync : Bool) (data : Byte)
  /-- DISK_PARAM_2.W, variant B (R217). -/
  | diskParam2W (sync : Bool) (data : Byte)
  /-- DISK_PARAM_2.R, variant B (R223). -/
  | diskParam2R (sync : Bool)
  /-- DISK_PARAM_3.W, variant B (R218). -/
  | diskParam3W (sync : Bool) (data : Byte)
  /-- DISK_PARAM_3.R, variant B (R223). -/
  | diskParam3R (sync : Bool)
  /-- DISK_DATA.W at 0xFE65, variant B (R220). -/
  | diskDataWB (sync : Bool) (data : Byte)
  /-- DISK_DATA.R at 0xFE65, variant B (R219). -/
  | diskDataRB (sync : Bool)
  /-- DISK_STATUS.R at 0xFE66, variant B (R221). -/
  | diskStatusRB (sync : Bool)
  /-- DISK_STATUS.W at 0xFE66, variant B (R224). -/
  | diskStatusWB (sync : Bool) (data : Byte)
  /-- TIMER_TARGET.W (R171). -/
  | timerTargetW (sync : Bool) (data : Byte)
  /-- TIMER_TARGET.R (R179). -/
  | timerTargetR (sync : Bool)
  /-- TIMER_COUNT.W (R180). -/
  | timerCountW (sync : Bool) (data : Byte)
  /-- TIMER_COUNT.R (R172). -/
  | timerCountR (sync : Bool)
  /-- TIMER_RESET.W (R173). -/
  | timerResetW (sync : Bool) (data : Byte)
  /-- TIMER_RESET.R (R181). -/
  | timerResetR (sync : Bool)
  /-- TIMER_TRIG.W (R174). -/
  | timerTrigW (sync : Bool) (data : Byte)
  /-- TIMER_TRIG.R (R182). -/
  | timerTrigR (sync : Bool)
  /-- TIMER_PAUSE.W (R175). -/
  | timerPauseW (sync : Bool) (data : Byte)
  /-- TIMER_PAUSE.R (R183). -/
  | timerPauseR (sync : Bool)
  /-- TIMER_CONT.W (R176). -/
  | timerContW (sync : Bool) (data : Byte)
  /-- TIMER_CONT.R (R184). -/
  | timerContR (sync : Bool)
  /-- DISK_INVALID (R225): an offset of a widened disk window that holds no register. -/
  | diskInvalid (sync : Bool) (off : BitVec 5) (acc : Access)
  /-- TIMER_INVALID (R185): an offset of a widened timer window that holds no register. -/
  | timerInvalid (sync : Bool) (off : BitVec 5) (acc : Access)
  /-- MEM.R (R261). -/
  | memR (sync : Bool) (addr : Addr)
  /-- MEM.W (R262). -/
  | memW (sync : Bool) (addr : Addr) (data : Byte)
  deriving DecidableEq, Repr

end Sys2Proof
end

