-- ==== Sys2Proof/WellFormed.lean ====
section
/-! DEFINITION. Which events a configuration has: the rows of the variant in force, reserved command codes, the offsets of
a widened window, and memory addresses outside both windows (`30_encoding.md` R99, R100). -/

namespace Sys2Proof

/-- Why an event is not one of a configuration. -/
inductive IllFormed where
  /-- The row belongs to the other disk variant. -/
  | otherVariant
  /-- DISK_CMD_RESERVED with the code of SELECT or SEEK (R93). -/
  | definedCommand
  /-- An invalid-offset row whose offset holds a register or lies past the window (R155). -/
  | offsetNotInvalid
  /-- A memory cycle at an address of a peripheral window (R63). -/
  | peripheralAddress
  deriving DecidableEq, Repr

/-- Whether `c` has the variant `v`. -/
def checkVariant (c : Config) (v : Variant) : Option IllFormed :=
  if c.variant = v then none else some .otherVariant

/-- Whether `off` lies past the registers and inside the window (R155). -/
def checkInvalidOffset (nreg len : Nat) (off : BitVec 5) : Option IllFormed :=
  if nreg ≤ off.toNat ∧ off.toNat < len then none else some .offsetNotInvalid

/-- Whether `addr` decodes to MEMORY. -/
def checkMemoryAddress (c : Config) (addr : Addr) : Option IllFormed :=
  if portDecode c addr = .memory then none else some .peripheralAddress

/-- What is wrong with an event under a configuration, if anything. -/
def illFormed (c : Config) : Instr → Option IllFormed
  | .init => none
  | .tick => none
  | .reservedKind => none
  | .diskSelect _ => none
  | .diskSeek _ => none
  | .diskCmdReserved _ data => if data = 0x00#8 ∨ data = 0x01#8 then some .definedCommand else none
  | .diskCommandR _ => none
  | .diskParam0W _ _ => none
  | .diskParam0R _ => none
  | .diskParam1W _ _ => none
  | .diskParam1R _ => none
  | .diskDataWA _ _ => checkVariant c .A
  | .diskDataRA _ => checkVariant c .A
  | .diskStatusRA _ => checkVariant c .A
  | .diskStatusWA _ _ => checkVariant c .A
  | .diskParam2W _ _ => checkVariant c .B
  | .diskParam2R _ => checkVariant c .B
  | .diskParam3W _ _ => checkVariant c .B
  | .diskParam3R _ => checkVariant c .B
  | .diskDataWB _ _ => checkVariant c .B
  | .diskDataRB _ => checkVariant c .B
  | .diskStatusRB _ => checkVariant c .B
  | .diskStatusWB _ _ => checkVariant c .B
  | .timerTargetW _ _ => none
  | .timerTargetR _ => none
  | .timerCountW _ _ => none
  | .timerCountR _ => none
  | .timerResetW _ _ => none
  | .timerResetR _ => none
  | .timerTrigW _ _ => none
  | .timerTrigR _ => none
  | .timerPauseW _ _ => none
  | .timerPauseR _ => none
  | .timerContW _ _ => none
  | .timerContR _ => none
  | .diskInvalid _ off _ => checkInvalidOffset (diskNReg c.variant) c.diskWindowLen off
  | .timerInvalid _ off _ => checkInvalidOffset timerNReg c.timerWindowLen off
  | .memR _ addr => checkMemoryAddress c addr
  | .memW _ addr _ => checkMemoryAddress c addr

/-- `i` is an event of the configuration `c`. -/
def WellFormed (c : Config) (i : Instr) : Bool := (illFormed c i).isNone

end Sys2Proof
end

