-- ==== Sys2Proof/Decode.lean ====
section
/-! DEFINITION. From an event word to the event it selects and back (`30_encoding.md` R90 to R99): the decoder, total on
every word; the encoder, written from the table's addresses; and spec/opcode_table.json itself as rows, to hold the decoder
against. -/

namespace Sys2Proof

/-! ## Fields of the event word (R90) -/

/-- `kind`, bits 27:26. -/
def kindOf (w : EventWord) : BitVec 2 := w.extractLsb' 26 2

/-- `sync`, bit 25. -/
def syncOf (w : EventWord) : Bool := w.getLsbD 25

/-- `rw`, bit 24: true is READ. -/
def rwOf (w : EventWord) : Bool := w.getLsbD 24

/-- `addr`, bits 23:8. -/
def addrOf (w : EventWord) : Addr := w.extractLsb' 8 16

/-- `data`, bits 7:0. -/
def dataOf (w : EventWord) : Byte := w.extractLsb' 0 8

/-- The word with the given fields. -/
def eventWord (kind : BitVec 2) (sync rw : Bool) (addr : Addr) (data : Byte) : EventWord :=
  kind ++ BitVec.ofBool sync ++ BitVec.ofBool rw ++ addr ++ data

/-- What the CPU does in a bus cycle: on a READ the data bits are ignored (R90). -/
def accessOf (rw : Bool) (data : Byte) : Access := if rw then .read else .write data

/-! ## The decoder -/

/-- The DISK_COMMAND register (R93, R210): a write is compared as a whole byte. -/
def diskCommandInstr (sync : Bool) : Access → Instr
  | .read => .diskCommandR sync
  | .write d =>
    if d = 0x00#8 then .diskSelect sync
    else if d = 0x01#8 then .diskSeek sync
    else .diskCmdReserved sync d

/-- DISK_PARAM_i (R210). -/
def diskParamInstr (i : Nat) (sync : Bool) : Access → Instr
  | .read =>
    if i = 0 then .diskParam0R sync else if i = 1 then .diskParam1R sync
    else if i = 2 then .diskParam2R sync else .diskParam3R sync
  | .write d =>
    if i = 0 then .diskParam0W sync d else if i = 1 then .diskParam1W sync d
    else if i = 2 then .diskParam2W sync d else .diskParam3W sync d

/-- DISK_DATA of a variant. -/
def diskDataInstr (v : Variant) (sync : Bool) : Access → Instr
  | .read => match v with
    | .A => .diskDataRA sync
    | .B => .diskDataRB sync
  | .write d => match v with
    | .A => .diskDataWA sync d
    | .B => .diskDataWB sync d

/-- DISK_STATUS of a variant. -/
def diskStatusInstr (v : Variant) (sync : Bool) : Access → Instr
  | .read => match v with
    | .A => .diskStatusRA sync
    | .B => .diskStatusRB sync
  | .write d => match v with
    | .A => .diskStatusWA sync d
    | .B => .diskStatusWB sync d

/-- The disk's register file (R210), over the variant's `DiskConfig`. -/
def diskInstr (v : Variant) (off : Byte) (sync : Bool) (acc : Access) : Instr :=
  if off.toNat = 0 then diskCommandInstr sync acc
  else if off.toNat < 1 + (diskConfig v).nparam then diskParamInstr (off.toNat - 1) sync acc
  else if off.toNat = (diskConfig v).dataOff then diskDataInstr v sync acc
  else if off.toNat = (diskConfig v).statusOff then diskStatusInstr v sync acc
  else .diskInvalid sync (off.setWidth 5) acc

/-- The timer's register file (R170). -/
def timerInstr (off : Byte) (sync : Bool) (acc : Access) : Instr :=
  match off.toNat, acc with
  | 0, .read => .timerTargetR sync
  | 0, .write d => .timerTargetW sync d
  | 1, .read => .timerCountR sync
  | 1, .write d => .timerCountW sync d
  | 2, .read => .timerResetR sync
  | 2, .write d => .timerResetW sync d
  | 3, .read => .timerTrigR sync
  | 3, .write d => .timerTrigW sync d
  | 4, .read => .timerPauseR sync
  | 4, .write d => .timerPauseW sync d
  | 5, .read => .timerContR sync
  | 5, .write d => .timerContW sync d
  | _, acc => .timerInvalid sync (off.setWidth 5) acc

/-- A memory cycle. -/
def memInstr (addr : Addr) (sync : Bool) : Access → Instr
  | .read => .memR sync addr
  | .write d => .memW sync addr d

/-- The operation a bus cycle selects (R99 item 4): the Port Decoder, then the register file. -/
def busInstr (c : Config) (sync : Bool) (addr : Addr) (acc : Access) : Instr :=
  match portDecode c addr with
  | .memory => memInstr addr sync acc
  | .peripheral .disk off => diskInstr c.variant off sync acc
  | .peripheral .timer off => timerInstr off sync acc

/-- The operation an event word selects (R99). Total: every word of 28 bits is one of these. -/
def decode (c : Config) (w : EventWord) : Instr :=
  match (kindOf w).toNat with
  | 0 => busInstr c (syncOf w) (addrOf w) (accessOf (rwOf w) (dataOf w))
  | 1 => .tick
  | 2 => .init
  | _ => .reservedKind

/-- Why a number is no event word. -/
inductive WordError where
  /-- It has a bit above bit 27: every event has 28 bits, there is one length (R91). -/
  | tooWide
  deriving DecidableEq, Repr

/-- The event word a number of any size stands for, or the reason there is none. -/
def eventWordOf (n : Nat) : Except WordError EventWord :=
  if n < 2 ^ 28 then .ok (BitVec.ofNat 28 n) else .error .tooWide

/-- The event the decoder reads from a number under the reference configuration (host interface); the low `nbits` bits of
`w` are the word, the bits above them are 0. -/
def decodeTableWord (nbits w : Nat) : Option Instr :=
  match eventWordOf (w % 2 ^ nbits) with
  | .ok ev => some (decode Config.reference ev)
  | .error _ => none

/-! ## The encoder -/

/-- A read cycle's word: bits 7:0 are written 0 (R90). -/
def readWord (sync : Bool) (addr : Addr) : EventWord := eventWord 0#2 sync true addr 0x00#8

/-- A write cycle's word. -/
def writeWord (sync : Bool) (addr : Addr) (data : Byte) : EventWord := eventWord 0#2 sync false addr data

/-- The word of a cycle given as an access. -/
def accessWord (sync : Bool) (addr : Addr) : Access → EventWord
  | .read => readWord sync addr
  | .write d => writeWord sync addr d

/-- The canonical event word of an event, from the addresses of spec/opcode_table.json. -/
def encode : Instr → EventWord
  | .init => 0x8000000#28
  | .tick => 0x4000000#28
  | .reservedKind => 0xC000000#28
  | .diskSelect sync => writeWord sync 0xFE60#16 0x00#8
  | .diskSeek sync => writeWord sync 0xFE60#16 0x01#8
  | .diskCmdReserved sync d => writeWord sync 0xFE60#16 d
  | .diskCommandR sync => readWord sync 0xFE60#16
  | .diskParam0W sync d => writeWord sync 0xFE61#16 d
  | .diskParam0R sync => readWord sync 0xFE61#16
  | .diskParam1W sync d => writeWord sync 0xFE62#16 d
  | .diskParam1R sync => readWord sync 0xFE62#16
  | .diskDataWA sync d => writeWord sync 0xFE63#16 d
  | .diskDataRA sync => readWord sync 0xFE63#16
  | .diskStatusRA sync => readWord sync 0xFE64#16
  | .diskStatusWA sync d => writeWord sync 0xFE64#16 d
  | .diskParam2W sync d => writeWord sync 0xFE63#16 d
  | .diskParam2R sync => readWord sync 0xFE63#16
  | .diskParam3W sync d => writeWord sync 0xFE64#16 d
  | .diskParam3R sync => readWord sync 0xFE64#16
  | .diskDataWB sync d => writeWord sync 0xFE65#16 d
  | .diskDataRB sync => readWord sync 0xFE65#16
  | .diskStatusRB sync => readWord sync 0xFE66#16
  | .diskStatusWB sync d => writeWord sync 0xFE66#16 d
  | .timerTargetW sync d => writeWord sync 0xFE80#16 d
  | .timerTargetR sync => readWord sync 0xFE80#16
  | .timerCountW sync d => writeWord sync 0xFE81#16 d
  | .timerCountR sync => readWord sync 0xFE81#16
  | .timerResetW sync d => writeWord sync 0xFE82#16 d
  | .timerResetR sync => readWord sync 0xFE82#16
  | .timerTrigW sync d => writeWord sync 0xFE83#16 d
  | .timerTrigR sync => readWord sync 0xFE83#16
  | .timerPauseW sync d => writeWord sync 0xFE84#16 d
  | .timerPauseR sync => readWord sync 0xFE84#16
  | .timerContW sync d => writeWord sync 0xFE85#16 d
  | .timerContR sync => readWord sync 0xFE85#16
  | .diskInvalid sync off acc => accessWord sync (0x7F3#11 ++ off) acc
  | .timerInvalid sync off acc => accessWord sync (0x7F4#11 ++ off) acc
  | .memR sync addr => readWord sync addr
  | .memW sync addr d => writeWord sync addr d

/-! ## The table -/

/-- The `condition` of a table row: the invalid-offset rows match only past the registers and inside the window. -/
inductive RowCondition where
  | always
  | pastDisk
  | pastTimer
  deriving DecidableEq, Repr

/-- A row of spec/opcode_table.json. -/
structure TableRow where
  mnemonic  : String
  variant   : Option Variant
  condition : RowCondition
  pat       : EventWord
  mask      : EventWord
  deriving DecidableEq, Repr

/-- spec/opcode_table.json: kinds 10, 01 and 11. -/
def controlRows : List TableRow := [
  ⟨"INIT", none, .always, 0x8000000#28, 0xC000000#28⟩,
  ⟨"TICK", none, .always, 0x4000000#28, 0xC000000#28⟩,
  ⟨"RESERVED_KIND", none, .always, 0xC000000#28, 0xC000000#28⟩]

/-- spec/opcode_table.json: the disk rows both variants share. -/
def diskCommonRows : List TableRow := [
  ⟨"DISK_SELECT", none, .always, 0x0FE6000#28, 0xDFFFFFF#28⟩,
  ⟨"DISK_SEEK", none, .always, 0x0FE6001#28, 0xDFFFFFF#28⟩,
  ⟨"DISK_CMD_RESERVED", none, .always, 0x0FE6000#28, 0xDFFFF00#28⟩,
  ⟨"DISK_COMMAND.R", none, .always, 0x1FE6000#28, 0xDFFFF00#28⟩,
  ⟨"DISK_PARAM_0.W", none, .always, 0x0FE6100#28, 0xDFFFF00#28⟩,
  ⟨"DISK_PARAM_0.R", none, .always, 0x1FE6100#28, 0xDFFFF00#28⟩,
  ⟨"DISK_PARAM_1.W", none, .always, 0x0FE6200#28, 0xDFFFF00#28⟩,
  ⟨"DISK_PARAM_1.R", none, .always, 0x1FE6200#28, 0xDFFFF00#28⟩]

/-- spec/opcode_table.json: the disk rows of one variant. -/
def diskVariantRows : List TableRow := [
  ⟨"DISK_DATA.W", some .A, .always, 0x0FE6300#28, 0xDFFFF00#28⟩,
  ⟨"DISK_DATA.R", some .A, .always, 0x1FE6300#28, 0xDFFFF00#28⟩,
  ⟨"DISK_STATUS.R", some .A, .always, 0x1FE6400#28, 0xDFFFF00#28⟩,
  ⟨"DISK_STATUS.W", some .A, .always, 0x0FE6400#28, 0xDFFFF00#28⟩,
  ⟨"DISK_PARAM_2.W", some .B, .always, 0x0FE6300#28, 0xDFFFF00#28⟩,
  ⟨"DISK_PARAM_2.R", some .B, .always, 0x1FE6300#28, 0xDFFFF00#28⟩,
  ⟨"DISK_PARAM_3.W", some .B, .always, 0x0FE6400#28, 0xDFFFF00#28⟩,
  ⟨"DISK_PARAM_3.R", some .B, .always, 0x1FE6400#28, 0xDFFFF00#28⟩,
  ⟨"DISK_DATA.W", some .B, .always, 0x0FE6500#28, 0xDFFFF00#28⟩,
  ⟨"DISK_DATA.R", some .B, .always, 0x1FE6500#28, 0xDFFFF00#28⟩,
  ⟨"DISK_STATUS.R", some .B, .always, 0x1FE6600#28, 0xDFFFF00#28⟩,
  ⟨"DISK_STATUS.W", some .B, .always, 0x0FE6600#28, 0xDFFFF00#28⟩]

/-- spec/opcode_table.json: the timer rows. -/
def timerRows : List TableRow := [
  ⟨"TIMER_TARGET.W", none, .always, 0x0FE8000#28, 0xDFFFF00#28⟩,
  ⟨"TIMER_TARGET.R", none, .always, 0x1FE8000#28, 0xDFFFF00#28⟩,
  ⟨"TIMER_COUNT.W", none, .always, 0x0FE8100#28, 0xDFFFF00#28⟩,
  ⟨"TIMER_COUNT.R", none, .always, 0x1FE8100#28, 0xDFFFF00#28⟩,
  ⟨"TIMER_RESET.W", none, .always, 0x0FE8200#28, 0xDFFFF00#28⟩,
  ⟨"TIMER_RESET.R", none, .always, 0x1FE8200#28, 0xDFFFF00#28⟩,
  ⟨"TIMER_TRIG.W", none, .always, 0x0FE8300#28, 0xDFFFF00#28⟩,
  ⟨"TIMER_TRIG.R", none, .always, 0x1FE8300#28, 0xDFFFF00#28⟩,
  ⟨"TIMER_PAUSE.W", none, .always, 0x0FE8400#28, 0xDFFFF00#28⟩,
  ⟨"TIMER_PAUSE.R", none, .always, 0x1FE8400#28, 0xDFFFF00#28⟩,
  ⟨"TIMER_CONT.W", none, .always, 0x0FE8500#28, 0xDFFFF00#28⟩,
  ⟨"TIMER_CONT.R", none, .always, 0x1FE8500#28, 0xDFFFF00#28⟩]

/-- spec/opcode_table.json: the invalid offsets, then memory. -/
def defaultRows : List TableRow := [
  ⟨"DISK_INVALID", none, .pastDisk, 0x0FE6000#28, 0xCFFE000#28⟩,
  ⟨"TIMER_INVALID", none, .pastTimer, 0x0FE8000#28, 0xCFFE000#28⟩,
  ⟨"MEM.R", none, .always, 0x1000000#28, 0xD000000#28⟩,
  ⟨"MEM.W", none, .always, 0x0000000#28, 0xD000000#28⟩]

/-- The rows of spec/opcode_table.json in ascending priority. -/
def opcodeTable : List TableRow :=
  controlRows ++ diskCommonRows ++ diskVariantRows ++ timerRows ++ defaultRows

/-- The register offset `addr[4:0]` of a word (R92). -/
def offsetOf (w : EventWord) : Nat := (w.extractLsb' 8 5).toNat

/-- Whether a row's condition holds of a word. -/
def RowCondition.holds (c : Config) (w : EventWord) : RowCondition → Bool
  | .always => true
  | .pastDisk => decide (diskNReg c.variant ≤ offsetOf w ∧ offsetOf w < c.diskWindowLen)
  | .pastTimer => decide (timerNReg ≤ offsetOf w ∧ offsetOf w < c.timerWindowLen)

/-- Whether a row matches a word: its variant is in force, its condition holds, the masked bits are its pattern. -/
def TableRow.accepts (c : Config) (w : EventWord) (r : TableRow) : Bool :=
  (match r.variant with
    | none => true
    | some v => decide (v = c.variant)) &&
  r.condition.holds c w && decide (w &&& r.mask = r.pat)

/-- The first row that matches (R99: "the first row that matches wins"). -/
def tableRowOf (c : Config) (w : EventWord) : Option TableRow := opcodeTable.find? (TableRow.accepts c w)

/-- The table's name of an event. -/
def mnemonic : Instr → String
  | .init => "INIT"
  | .tick => "TICK"
  | .reservedKind => "RESERVED_KIND"
  | .diskSelect _ => "DISK_SELECT"
  | .diskSeek _ => "DISK_SEEK"
  | .diskCmdReserved _ _ => "DISK_CMD_RESERVED"
  | .diskCommandR _ => "DISK_COMMAND.R"
  | .diskParam0W _ _ => "DISK_PARAM_0.W"
  | .diskParam0R _ => "DISK_PARAM_0.R"
  | .diskParam1W _ _ => "DISK_PARAM_1.W"
  | .diskParam1R _ => "DISK_PARAM_1.R"
  | .diskDataWA _ _ => "DISK_DATA.W"
  | .diskDataRA _ => "DISK_DATA.R"
  | .diskStatusRA _ => "DISK_STATUS.R"
  | .diskStatusWA _ _ => "DISK_STATUS.W"
  | .diskParam2W _ _ => "DISK_PARAM_2.W"
  | .diskParam2R _ => "DISK_PARAM_2.R"
  | .diskParam3W _ _ => "DISK_PARAM_3.W"
  | .diskParam3R _ => "DISK_PARAM_3.R"
  | .diskDataWB _ _ => "DISK_DATA.W"
  | .diskDataRB _ => "DISK_DATA.R"
  | .diskStatusRB _ => "DISK_STATUS.R"
  | .diskStatusWB _ _ => "DISK_STATUS.W"
  | .timerTargetW _ _ => "TIMER_TARGET.W"
  | .timerTargetR _ => "TIMER_TARGET.R"
  | .timerCountW _ _ => "TIMER_COUNT.W"
  | .timerCountR _ => "TIMER_COUNT.R"
  | .timerResetW _ _ => "TIMER_RESET.W"
  | .timerResetR _ => "TIMER_RESET.R"
  | .timerTrigW _ _ => "TIMER_TRIG.W"
  | .timerTrigR _ => "TIMER_TRIG.R"
  | .timerPauseW _ _ => "TIMER_PAUSE.W"
  | .timerPauseR _ => "TIMER_PAUSE.R"
  | .timerContW _ _ => "TIMER_CONT.W"
  | .timerContR _ => "TIMER_CONT.R"
  | .diskInvalid _ _ _ => "DISK_INVALID"
  | .timerInvalid _ _ _ => "TIMER_INVALID"
  | .memR _ _ => "MEM.R"
  | .memW _ _ _ => "MEM.W"

end Sys2Proof
end

