-- ==== Sys2Proof/Machine/Memory.lean ====
section
/-! DEFINITION. Byte images (`20_memory.md` R62, R66): reading and writing one byte, and the canonical form that makes
equal images equal data. -/

namespace Sys2Proof

/-- What an index with no entry reads as. DESIGN CHOICE (unsafe, notes/assumptions/6.md): the spec gives no `MEM_INIT`
(D6); an image may list any cells it wants to hold something else. -/
def Memory.unlisted (_k : Nat) : Byte := 0x00#8

/-- The byte at index `k`. -/
def Memory.read : Memory → Nat → Byte
  | [], k => Memory.unlisted k
  | (j, b) :: m, k => if k = j then b else Memory.read m k

/-- Stores `v` at index `k`, keeping the canonical form: writing what an unlisted index reads as removes the entry. -/
def Memory.write : Memory → Nat → Byte → Memory
  | [], k, v => if v = Memory.unlisted k then [] else [(k, v)]
  | (j, b) :: m, k, v =>
    if k < j then (if v = Memory.unlisted k then (j, b) :: m else (k, v) :: (j, b) :: m)
    else if k = j then (if v = Memory.unlisted k then m else (k, v) :: m)
    else (j, b) :: Memory.write m k v

/-- The canonical form: indices strictly rising, no entry equal to what an unlisted index reads as. -/
def Memory.wf : Memory → Bool
  | [] => true
  | (j, b) :: m => b != Memory.unlisted j && m.all (fun c => decide (j < c.1)) && Memory.wf m

/-- Every entry lies below `n`. -/
def Memory.below (m : Memory) (n : Nat) : Bool := m.all (fun c => decide (c.1 < n))

end Sys2Proof
end

