-- ==== Sys2Proof/Machine/State.lean ====
section
/-! DEFINITION. The state of the block (`10_state.md` R20): the transceiver's latches, the timer, the disk registers, the
backing store, the MemoryImage; the parameters as data; and the model's own bookkeeping. Reset is the state INIT leaves
(R330, R46). -/

namespace Sys2Proof.Machine

/-- A bus direction (R10): SAMPLE, the CPU drives and the block samples; DRIVE, the block drives. -/
inductive Direction where
  | sample
  | drive
  deriving DecidableEq, Repr

/-- `timer.mode` (R28); no order or number is given to the three (R104). -/
inductive TimerMode where
  | running
  | triggered
  | paused
  deriving DecidableEq, Repr

/-- `disk.status` (R31). -/
inductive DiskStatus where
  | ok
  | nok
  deriving DecidableEq, Repr

/-- The errors a disk operation raises (R290 to R293). -/
inductive DiskError where
  | deviceUnavailable
  | seekRejected
  | transferRejected
  deriving DecidableEq, Repr

/-- The Bus Transceiver's latches (R21 to R23). -/
structure Xcvr where
  addrDir : Direction
  dataDir : Direction
  dataOut : Byte
  deriving DecidableEq, Repr

/-- The Timer Peripheral (R26 to R29). `irq` is the level of the interrupt line (R297). -/
structure Timer where
  ticks  : Count
  target : Byte
  mode   : TimerMode
  irq    : Bool
  deriving DecidableEq, Repr

/-- The Disk Peripheral's registers (R31 to R33); `param` holds `DISK_NPARAM` bytes, lowest address first. -/
structure Disk where
  status : DiskStatus
  cmd    : Byte
  param  : List Byte
  deriving DecidableEq, Repr

/-- The backing store, an external collaborator whose state a model must carry (R20, R35). -/
structure Store where
  pos   : Nat
  bytes : Memory
  deriving DecidableEq, Repr

/-- The per-cycle record BusState (R25). -/
structure BusState where
  address       : Addr
  data          : Byte
  direction     : Direction
  isOpcodeFetch : Bool
  deriving DecidableEq, Repr

/-- Why the model stops with a fault. -/
inductive Fault where
  /-- R127, R310: a transceiver operation in the wrong direction, raised by `sampleAddress`, `sampleData` and `writeData`
  (so by a bus cycle from a state whose address bus is in DRIVE, which no event reaches). Safe: the source gives such a use
  no result. -/
  | transceiverMisuse
  deriving DecidableEq, Repr

/-- Why the model refuses an event. -/
inductive Refusal where
  /-- An arm of `exec` that has no meaning yet. Safe. -/
  | notModelled (mnemonic : String)
  /-- R90, R100, U24: an event word with kind 11 is not an event; raised by `execReservedKind`. Safe. -/
  | notAnEvent
  /-- R330, D27, U25: INIT when an event has already been served; raised by `execInit`. Safe. -/
  | secondInit
  deriving DecidableEq, Repr

/-- The machine. -/
structure State where
  /-- The parameters (R20: not state, parameters of the step relation); no event changes them. -/
  cfg      : Config
  /-- R21 to R23. -/
  xcvr     : Xcvr
  /-- R26 to R29. -/
  timer    : Timer
  /-- R31 to R33. -/
  disk     : Disk
  /-- R35. -/
  store    : Store
  /-- R37. -/
  mem      : Memory
  /-- The model's: the event words waiting to be served, oldest first (notes/assumptions/2.md). -/
  events   : List EventWord
  /-- The model's: no event has been served yet, so INIT is admitted (notes/assumptions/3.md). -/
  initOpen : Bool
  /-- The model's: the number of the next draw of a free value (notes/assumptions/12.md). -/
  draws    : Nat
  /-- The model's: the BusState record of the event just served, if it was a bus cycle (notes/assumptions/13.md). -/
  bus      : Option BusState
  /-- The model's: the error the event just served raised (R295's ghost label, notes/assumptions/13.md). -/
  raised   : Option DiskError
  /-- The model's: the calls of `setDataDirection` since INIT (R342, notes/assumptions/14.md). -/
  switches : Nat
  deriving DecidableEq, Repr

/-- The outcome of one event. -/
abbrev Result := Host.Outcome State Fault Refusal

/-- The machine right after reset: what INIT leaves (R330, R46) under the reference configuration. `dataOut` and `cmd`, which
R330 leaves open, hold 0x00 (DESIGN CHOICE, notes/assumptions/4.md and 5.md). -/
def State.reset : State where
  cfg := Config.reference
  xcvr := { addrDir := .sample, dataDir := .sample, dataOut := 0x00#8 }
  timer := { ticks := 0#16, target := 255#8, mode := .paused, irq := false }
  disk := { status := .ok, cmd := 0x00#8, param := [0x00#8, 0x00#8, 0x00#8, 0x00#8] }
  store := { pos := 0, bytes := [] }
  mem := []
  events := []
  initOpen := true
  draws := 0
  bus := none
  raised := none
  switches := 0

end Sys2Proof.Machine
end

