-- ==== Sys2Proof/Machine/Operands.lean ====
section
/-! DEFINITION. Operand assembly: the memory index (R62), the block number and byte offset (R94, R95), and the bytes a
register shows (R96, R97). -/

namespace Sys2Proof.Machine

/-- The index of the cell an address selects: its low `MEM_ADDR_BITS` bits (R62). -/
def memIndex (c : Config) (a : Addr) : Nat := a.toNat % 2 ^ c.memAddrBits

/-- The parameter registers concatenated little-endian, the lowest-addressed the least significant byte (R94). -/
def blockNumber : List Byte → Nat
  | [] => 0
  | p :: ps => p.toNat + 256 * blockNumber ps

/-- The byte offset of a block, an exact product (R95, D15). -/
def byteOffset (v : Variant) (block : Nat) : Nat := block * (diskConfig v).blockSize

/-- `zext_16` of a target (R26). -/
def targetCount (target : Byte) : Count := target.setWidth 16

/-- `trunc_8(timer.ticks)`, what TIMER_COUNT shows (R97, R172). -/
def countByte (ticks : Count) : Byte := ticks.setWidth 8

/-- What DISK_STATUS shows (R96). -/
def statusByte : DiskStatus → Byte
  | .ok => 0x00#8
  | .nok => 0x01#8

end Sys2Proof.Machine
end

