-- ==== Sys2Proof/Machine/Flags.lean ====
section
/-! DEFINITION. The flag-like values of R41: when a period elapses, the two ways the timer's mode and line move together,
and the status of a disk operation's outcome. -/

namespace Sys2Proof.Machine

/-- Whether the period has elapsed at count `t`: the signed 16-bit comparison `t >= zext_16(target)` (R177). -/
def periodElapsed (t : Count) (target : Byte) : Bool := (targetCount target).sle t

/-- The timer fires: mode TRIGGERED and the interrupt line asserted (R174, R177, R298). -/
def assertIrq (t : Timer) : Timer := { t with mode := .triggered, irq := true }

/-- The timer runs with the interrupt line deasserted: what acknowledges a trigger (R171, R173, R176, R299, R303). -/
def acknowledgeIrq (t : Timer) : Timer := { t with mode := .running, irq := false }

/-- The status INIT gives the disk (R230, D12). -/
def initialStatus (storeOpen : Bool) : DiskStatus := if storeOpen then .ok else .nok

end Sys2Proof.Machine
end

