-- ==== Sys2Proof/Machine/Lines.lean ====
section
/-! DEFINITION. The physical lines (`10_state.md` R24, `30_encoding.md` R98, `40_transceiver.md` R125): gathering a logical
value from line levels, scattering one onto them, and the control and interrupt levels. Levels are inputs and outputs of a
step, not state. -/

namespace Sys2Proof.Machine

/-- Line levels: line index to level, true is 1 (R24, D17). -/
abbrev Lines := Nat → Bool

/-- The sum over i of `L(line i) * 2^i` (R125). -/
def gather : List Nat → Lines → Nat
  | [], _ => 0
  | n :: ns, L => (L n).toNat + 2 * gather ns L

/-- `gatherAddr` (R125). -/
def gatherAddr (w : Wiring) (L : Lines) : Addr := BitVec.ofNat 16 (gather w.addrLine L)

/-- `gatherData` (R125). -/
def gatherData (w : Wiring) (L : Lines) : Byte := BitVec.ofNat 8 (gather w.dataLine L)

/-- `L[p]` for the partial assignment that gives the i-th line of `ns` bit i of `v` (R125). -/
def scatter (ns : List Nat) (v : Nat) (L : Lines) : Lines :=
  fun n => if n ∈ ns then v.testBit (ns.idxOf n) else L n

/-- `L[scatterData(v)]` (R125). -/
def scatterData (w : Wiring) (v : Byte) (L : Lines) : Lines := scatter w.dataLine v.toNat L

/-- `L[scatterAddr(a)]` (R125): used by no operation of the block. -/
def scatterAddr (w : Wiring) (a : Addr) (L : Lines) : Lines := scatter w.addrLine a.toNat L

/-- The levels on the lines when the outside drives `L`: a data line carries the bit of `dataOut` while the data bus is in
DRIVE (R23, R24, R124). -/
def drivenLines (s : State) (L : Lines) : Lines :=
  if s.xcvr.dataDir = .drive then scatterData s.cfg.wiring s.xcvr.dataOut L else L

/-- The level of the interrupt line (R297, D30). -/
def irqLevel (s : State) : Bool := if s.timer.irq then s.cfg.polarity.irq else !s.cfg.polarity.irq

/-- The levels of the two control lines (R129). -/
structure Control where
  rwLevel   : Bool
  syncLevel : Bool
  deriving DecidableEq, Repr

/-- `readControl` (R129): is the cycle a READ, is it an opcode fetch. The control lines are always inputs. -/
def readControl (p : Polarity) (ctl : Control) : Bool × Bool :=
  (ctl.rwLevel == p.read, ctl.syncLevel == p.sync)

end Sys2Proof.Machine
end

