-- ==== Sys2Proof/Machine/Ops.lean ====
section
/-! DEFINITION. The operations the meanings are made of: the transceiver's primitives (`40_transceiver.md`), the frame of a
bus cycle (`44_dispatcher.md` R260), memory (R62, R66), the backing-store interface (`43_disk.md` R226 to R229), and raising a
disk error (`60_exceptions.md` R290), which is the block's one way of reporting an error. -/

namespace Sys2Proof.Machine

/-! ## Transceiver primitives -/

/-- `setAddressDirection(d)` (R120). -/
def setAddressDirection (d : Direction) (s : State) : State := { s with xcvr := { s.xcvr with addrDir := d } }

/-- `setDataDirection(d)` (R121); the call is counted (R342). -/
def setDataDirection (d : Direction) (s : State) : State :=
  { s with xcvr := { s.xcvr with dataDir := d }, switches := s.switches + 1 }

/-- The direction policy (R264): switch the data bus only when the cycle needs the other direction. -/
def needDataDirection (d : Direction) (s : State) : State :=
  if s.xcvr.dataDir = d then s else setDataDirection d s

/-- `readAddress` (R122) once the lines are gathered: `a` is the logical value they carry. -/
def sampleAddress (a : Addr) (s : State) : Except Fault Addr :=
  if s.xcvr.addrDir = .sample then .ok a else .error .transceiverMisuse

/-- `readData` (R123) once the lines are gathered. -/
def sampleData (v : Byte) (s : State) : Except Fault Byte :=
  if s.xcvr.dataDir = .sample then .ok v else .error .transceiverMisuse

/-- `readAddress` (R122) from the physical lines. -/
def readAddress (L : Lines) (s : State) : Except Fault Addr := sampleAddress (gatherAddr s.cfg.wiring L) s

/-- `readData` (R123) from the physical lines. -/
def readData (L : Lines) (s : State) : Except Fault Byte := sampleData (gatherData s.cfg.wiring L) s

/-- Holds `v` as the byte the data lines carry in DRIVE (R23). -/
def latchData (v : Byte) (s : State) : State := { s with xcvr := { s.xcvr with dataOut := v } }

/-- `writeData(v)` (R124). -/
def writeData (v : Byte) (s : State) : Except Fault State :=
  if s.xcvr.dataDir = .drive then .ok (latchData v s) else .error .transceiverMisuse

/-! ## The frame of an event -/

/-- An event begins: INIT is no longer admitted, and the records of the previous event are gone (R25). -/
def openEvent (s : State) : State := { s with initOpen := false, bus := none, raised := none }

/-- Keeps the BusState record of a cycle (R25, R260). -/
def recordCycle (r : BusState) (s : State) : State := { s with bus := some r }

/-- Replaces the timer. -/
def putTimer (t : Timer) (s : State) : State := { s with timer := t }

/-- A CPU write cycle (R260): sample the address, give the data bus to the CPU, sample the byte, then the target operation,
once (R267). -/
def busWrite (a : Addr) (sync : Bool) (d : Byte) (target : Byte → State → State) (s : State) : Result :=
  match sampleAddress a s with
  | .error f => .fault f
  | .ok addr =>
    let s1 := needDataDirection .sample (openEvent s)
    match sampleData d s1 with
    | .error f => .fault f
    | .ok v => .next (recordCycle ⟨addr, v, .sample, sync⟩ (target v s1))

/-- A CPU read cycle (R260): sample the address, then the target operation, once (R267), then take the data bus and drive the
byte. -/
def busRead (a : Addr) (sync : Bool) (target : State → Byte × State) (s : State) : Result :=
  match sampleAddress a s with
  | .error f => .fault f
  | .ok addr =>
    let r := target (openEvent s)
    match writeData r.1 (needDataDirection .drive r.2) with
    | .error f => .fault f
    | .ok t => .next (recordCycle ⟨addr, r.1, .drive, sync⟩ t)

/-- A bus cycle given as an access: a read or a write (R91). -/
def busAccess (a : Addr) (sync : Bool) (acc : Access) (onRead : State → Byte × State) (onWrite : Byte → State → State)
    (s : State) : Result :=
  match acc with
  | .read => busRead a sync onRead s
  | .write d => busWrite a sync d onWrite s

/-- The register operation of a write that changes nothing (R100). -/
def ignoreWrite (_v : Byte) (s : State) : State := s

/-- The register operation of a read that returns 0x00 and changes nothing (R100). -/
def zeroRead (s : State) : Byte × State := (0x00#8, s)

/-! ## Memory (R62, R66) -/

/-- `MemRead(a, 1)`. -/
def memRead (a : Addr) (s : State) : Byte := s.mem.read (memIndex s.cfg a)

/-- `MemWrite(a, 1, v)`. -/
def memWrite (a : Addr) (v : Byte) (s : State) : State := { s with mem := s.mem.write (memIndex s.cfg a) v }

/-! ## Disk errors -/

/-- `raise <Name>` (R8, R290): the status becomes NOK and the name is recorded for the step (R295); control goes on. -/
def raiseError (e : DiskError) (s : State) : State :=
  { s with disk := { s.disk with status := .nok }, raised := some e }

/-- The outcome OK. -/
def reportOk (s : State) : State := { s with disk := { s.disk with status := .ok } }

/-- The availability gate (R211) of a disk operation without a result. -/
def whenAvailable (op : State → State) (s : State) : State :=
  if s.cfg.storeOpen then op s else raiseError .deviceUnavailable s

/-! ## The backing store (R226 to R229)

A reference store (R229) answers from its size; a general store (D31) answers as the free values of `Config` say. Each
call takes one draw. -/

/-- Moves the store's position and takes the call's draw. -/
def moveStore (pos : Nat) (s : State) : State :=
  { s with store := { s.store with pos := pos }, draws := s.draws + 1 }

/-- Whether `StoreSeek(off)` succeeds. -/
def seekSucceeds (off : Nat) (s : State) : Bool :=
  match s.cfg.storeKind with
  | .reference => decide (off ≤ s.cfg.storeSize)
  | .general => Config.seekAccepted s.draws off

/-- Whether `StoreRead()` has a byte. -/
def readSucceeds (s : State) : Bool :=
  match s.cfg.storeKind with
  | .reference => decide (s.store.pos < s.cfg.storeSize)
  | .general => Config.readAccepted s.draws s.store.pos

/-- Whether `StoreWrite(b)` succeeds. -/
def writeSucceeds (s : State) : Bool :=
  match s.cfg.storeKind with
  | .reference => s.cfg.storeWritable && decide (s.store.pos < s.cfg.storeSize)
  | .general => Config.writeAccepted s.draws s.store.pos

/-- The position after a transfer the store refused: unchanged in the reference store, open in a general one (U4). -/
def posAfterRefusal (s : State) : Nat :=
  match s.cfg.storeKind with
  | .reference => s.store.pos
  | .general => Config.freePos s.draws

/-- `StoreSeek(off)` (R226): on failure the position is any natural number (U1). -/
def storeSeek (off : Nat) (s : State) : Bool × State :=
  if seekSucceeds off s then (true, moveStore off s) else (false, moveStore (Config.freePos s.draws) s)

/-- `StoreRead()` (R227). -/
def storeRead (s : State) : Option Byte × State :=
  if readSucceeds s then (some (s.store.bytes.read s.store.pos), moveStore (s.store.pos + 1) s)
  else (none, moveStore (posAfterRefusal s) s)

/-- `store.bytes[store.pos] <- b`. -/
def putStoreByte (b : Byte) (s : State) : State :=
  { s with store := { s.store with bytes := s.store.bytes.write s.store.pos b } }

/-- `StoreWrite(b)` (R228). -/
def storeWrite (b : Byte) (s : State) : Bool × State :=
  if writeSucceeds s then
    (true, moveStore (s.store.pos + 1) (putStoreByte b s))
  else (false, moveStore (posAfterRefusal s) s)

end Sys2Proof.Machine
end

