-- ==== Sys2Proof/Machine/Control.lean ====
section
/-! DEFINITION. The events that are no bus cycle: INIT (`70_reset_and_hazards.md` R330), TICK (`42_timer.md` R177) and the
reserved kind (`30_encoding.md` R100). -/

namespace Sys2Proof.Machine

/-- `init()` of the timer (R178). -/
def initialTimer : Timer := { ticks := 0#16, target := 255#8, mode := .paused, irq := false }

/-- What INIT constructs (R330). `dataOut` and `cmd` are free values (U11, U12); the store is touched only if it opened. The
event queue and the parameters stay. -/
def initialState (s : State) : State where
  cfg := s.cfg
  xcvr := { addrDir := .sample, dataDir := .sample, dataOut := Config.freeByte s.draws }
  timer := initialTimer
  disk := { status := initialStatus s.cfg.storeOpen, cmd := Config.freeByte (s.draws + 1),
            param := List.replicate (diskConfig s.cfg.variant).nparam 0x00#8 }
  store := if s.cfg.storeOpen then { pos := s.cfg.storeInitPos, bytes := s.cfg.storeInit } else s.store
  mem := s.cfg.memInit
  events := s.events
  initOpen := false
  draws := s.draws + 2
  bus := none
  raised := none
  switches := 0

/-- INIT (R330): admitted only as the first event (D27). -/
def execInit (s : State) : Result := if s.initOpen then .next (initialState s) else .refused .secondInit

/-- `tick()` (R177). -/
def tickTimer (t : Timer) : Timer :=
  if t.mode = .paused then t
  else if periodElapsed (t.ticks + 1#16) t.target then
    assertIrq { t with ticks := t.ticks + 1#16 - targetCount t.target }
  else { t with ticks := t.ticks + 1#16 }

/-- TICK (R177). -/
def execTick (s : State) : Result := .next (putTimer (tickTimer s.timer) (openEvent s))

/-- RESERVED_KIND (R90, R100): not an event; a model refuses the word. -/
def execReservedKind (_s : State) : Result := .refused .notAnEvent

end Sys2Proof.Machine
end

