-- ==== Sys2Proof/Machine/DiskRegs.lean ====
section
/-! DEFINITION. The Disk Peripheral's registers (`43_disk.md` R210 to R225). -/

namespace Sys2Proof.Machine

/-! ## Register operations -/

/-- Latches a command byte (R32). -/
def latchCommand (v : Byte) (s : State) : State := { s with disk := { s.disk with cmd := v } }

/-- SELECT (R212). -/
def selectDisk : State → State := whenAvailable fun s => reportOk (latchCommand 0x00#8 s)

/-- The offset SEEK asks for: the block number of the parameter registers times the block size (R94, R95). -/
def seekOffset (s : State) : Nat := byteOffset s.cfg.variant (blockNumber s.disk.param)

/-- SEEK (R213). -/
def seekDisk : State → State := whenAvailable fun s =>
  match storeSeek (seekOffset s) (latchCommand 0x01#8 s) with
  | (true, t) => reportOk t
  | (false, t) => raiseError .seekRejected t

/-- A reserved command code (R214): latched, no store call, and the status is a free value (U6, D14). -/
def reservedCommand (v : Byte) : State → State := whenAvailable fun s =>
  { s with disk := { s.disk with cmd := v, status := if Config.freeOk s.draws then .ok else .nok }, draws := s.draws + 1 }

/-- A write to DISK_PARAM_i (R215 to R218): with the store available the status is unchanged (D13). -/
def latchParam (i : Nat) (v : Byte) : State → State := whenAvailable fun s =>
  { s with disk := { s.disk with param := s.disk.param.set i v } }

/-- A read of DISK_DATA (R219). -/
def readStoreByte (s : State) : Byte × State :=
  if s.cfg.storeOpen then
    match storeRead s with
    | (some b, t) => (b, reportOk t)
    | (none, t) => (0x00#8, raiseError .transferRejected t)
  else (0x00#8, raiseError .deviceUnavailable s)

/-- A write to DISK_DATA (R220). -/
def writeStoreByte (v : Byte) : State → State := whenAvailable fun s =>
  match storeWrite v s with
  | (true, t) => reportOk t
  | (false, t) => raiseError .transferRejected t

/-- A read of DISK_STATUS (R221); 0x01 whenever the store is unavailable (R211). -/
def readStatus (s : State) : Byte × State := (if s.cfg.storeOpen then statusByte s.disk.status else 0x01#8, s)

/-! ## The events -/

/-- DISK_SELECT (R212). -/
def execDiskSelect (sync : Bool) (s : State) : Result := busWrite 0xFE60#16 sync 0x00#8 (fun _ => selectDisk) s

/-- DISK_SEEK (R213). -/
def execDiskSeek (sync : Bool) (s : State) : Result := busWrite 0xFE60#16 sync 0x01#8 (fun _ => seekDisk) s

/-- DISK_CMD_RESERVED (R214). -/
def execDiskCmdReserved (sync : Bool) (d : Byte) (s : State) : Result := busWrite 0xFE60#16 sync d reservedCommand s

/-- DISK_COMMAND.R (R222): write-only, reads as 0x00. -/
def execDiskCommandR (sync : Bool) (s : State) : Result := busRead 0xFE60#16 sync zeroRead s

/-- DISK_PARAM_0.W (R215). -/
def execDiskParam0W (sync : Bool) (d : Byte) (s : State) : Result := busWrite 0xFE61#16 sync d (latchParam 0) s

/-- DISK_PARAM_0.R (R223): write-only, reads as 0x00. -/
def execDiskParam0R (sync : Bool) (s : State) : Result := busRead 0xFE61#16 sync zeroRead s

/-- DISK_PARAM_1.W (R216). -/
def execDiskParam1W (sync : Bool) (d : Byte) (s : State) : Result := busWrite 0xFE62#16 sync d (latchParam 1) s

/-- DISK_PARAM_1.R (R223): write-only, reads as 0x00. -/
def execDiskParam1R (sync : Bool) (s : State) : Result := busRead 0xFE62#16 sync zeroRead s

/-- DISK_DATA.W in variant A (R220). -/
def execDiskDataWA (sync : Bool) (d : Byte) (s : State) : Result := busWrite 0xFE63#16 sync d writeStoreByte s

/-- DISK_DATA.R in variant A (R219). -/
def execDiskDataRA (sync : Bool) (s : State) : Result := busRead 0xFE63#16 sync readStoreByte s

/-- DISK_STATUS.R in variant A (R221). -/
def execDiskStatusRA (sync : Bool) (s : State) : Result := busRead 0xFE64#16 sync readStatus s

/-- DISK_STATUS.W in variant A (R224): read-only, the write is ignored. -/
def execDiskStatusWA (sync : Bool) (d : Byte) (s : State) : Result := busWrite 0xFE64#16 sync d ignoreWrite s

/-- DISK_PARAM_2.W, variant B (R217). -/
def execDiskParam2W (sync : Bool) (d : Byte) (s : State) : Result := busWrite 0xFE63#16 sync d (latchParam 2) s

/-- DISK_PARAM_2.R, variant B (R223): write-only, reads as 0x00. -/
def execDiskParam2R (sync : Bool) (s : State) : Result := busRead 0xFE63#16 sync zeroRead s

/-- DISK_PARAM_3.W, variant B (R218). -/
def execDiskParam3W (sync : Bool) (d : Byte) (s : State) : Result := busWrite 0xFE64#16 sync d (latchParam 3) s

/-- DISK_PARAM_3.R, variant B (R223): write-only, reads as 0x00. -/
def execDiskParam3R (sync : Bool) (s : State) : Result := busRead 0xFE64#16 sync zeroRead s

/-- DISK_DATA.W in variant B (R220). -/
def execDiskDataWB (sync : Bool) (d : Byte) (s : State) : Result := busWrite 0xFE65#16 sync d writeStoreByte s

/-- DISK_DATA.R in variant B (R219). -/
def execDiskDataRB (sync : Bool) (s : State) : Result := busRead 0xFE65#16 sync readStoreByte s

/-- DISK_STATUS.R in variant B (R221). -/
def execDiskStatusRB (sync : Bool) (s : State) : Result := busRead 0xFE66#16 sync readStatus s

/-- DISK_STATUS.W in variant B (R224): read-only, the write is ignored. -/
def execDiskStatusWB (sync : Bool) (d : Byte) (s : State) : Result := busWrite 0xFE66#16 sync d ignoreWrite s

/-- DISK_INVALID (R225): a no-op write, a zero read; the status is not touched. -/
def execDiskInvalid (sync : Bool) (off : BitVec 5) (acc : Access) (s : State) : Result :=
  busAccess (0x7F3#11 ++ off) sync acc zeroRead ignoreWrite s

end Sys2Proof.Machine
end

