-- ==== Sys2Proof/Machine/MemCycles.lean ====
section
/-! DEFINITION. The memory cycles (`44_dispatcher.md` R261, R262). -/

namespace Sys2Proof.Machine

/-- MEM.R (R261): `sync` is recorded and ignored. -/
def execMemR (sync : Bool) (addr : Addr) (s : State) : Result := busRead addr sync (fun t => (memRead addr t, t)) s

/-- MEM.W (R262). -/
def execMemW (sync : Bool) (addr : Addr) (d : Byte) (s : State) : Result := busWrite addr sync d (memWrite addr) s

end Sys2Proof.Machine
end

