-- ==== Sys2Proof/Machine/TimerRegs.lean ====
section
/-! DEFINITION. The Timer Peripheral's registers (`42_timer.md` R170 to R185). -/

namespace Sys2Proof.Machine

/-! ## The operations of the source -/

/-- `writeTarget(v)` (R171). -/
def writeTarget (v : Byte) (s : State) : State :=
  putTimer (acknowledgeIrq { s.timer with target := v, ticks := 0#16 }) s

/-- `reset()` (R173). -/
def resetPeriod (s : State) : State := putTimer (acknowledgeIrq { s.timer with ticks := 0#16 }) s

/-- `trigger()` (R174). -/
def triggerNow (s : State) : State := putTimer (assertIrq { s.timer with ticks := 0#16 }) s

/-- `pause()` (R175): the interrupt line keeps its level. -/
def pauseTimer (s : State) : State := putTimer { s.timer with mode := .paused } s

/-- `resume()` (R176). -/
def resumeTimer (s : State) : State := putTimer (acknowledgeIrq s.timer) s

/-- `readCount()` (R172). -/
def readCount (s : State) : Byte × State := (countByte s.timer.ticks, s)

/-! ## The events -/

/-- TIMER_TARGET.W (R171). -/
def execTimerTargetW (sync : Bool) (d : Byte) (s : State) : Result := busWrite 0xFE80#16 sync d writeTarget s

/-- TIMER_TARGET.R (R179): write-only, reads as 0x00. -/
def execTimerTargetR (sync : Bool) (s : State) : Result := busRead 0xFE80#16 sync zeroRead s

/-- TIMER_COUNT.W (R180): read-only, the write is ignored. -/
def execTimerCountW (sync : Bool) (d : Byte) (s : State) : Result := busWrite 0xFE81#16 sync d ignoreWrite s

/-- TIMER_COUNT.R (R172). -/
def execTimerCountR (sync : Bool) (s : State) : Result := busRead 0xFE81#16 sync readCount s

/-- TIMER_RESET.W (R173): any data byte. -/
def execTimerResetW (sync : Bool) (d : Byte) (s : State) : Result := busWrite 0xFE82#16 sync d (fun _ => resetPeriod) s

/-- TIMER_RESET.R (R181): the period is not restarted. -/
def execTimerResetR (sync : Bool) (s : State) : Result := busRead 0xFE82#16 sync zeroRead s

/-- TIMER_TRIG.W (R174): any data byte. -/
def execTimerTrigW (sync : Bool) (d : Byte) (s : State) : Result := busWrite 0xFE83#16 sync d (fun _ => triggerNow) s

/-- TIMER_TRIG.R (R182): the timer is not fired. -/
def execTimerTrigR (sync : Bool) (s : State) : Result := busRead 0xFE83#16 sync zeroRead s

/-- TIMER_PAUSE.W (R175): any data byte. -/
def execTimerPauseW (sync : Bool) (d : Byte) (s : State) : Result := busWrite 0xFE84#16 sync d (fun _ => pauseTimer) s

/-- TIMER_PAUSE.R (R183): the timer is not paused. -/
def execTimerPauseR (sync : Bool) (s : State) : Result := busRead 0xFE84#16 sync zeroRead s

/-- TIMER_CONT.W (R176): any data byte. -/
def execTimerContW (sync : Bool) (d : Byte) (s : State) : Result := busWrite 0xFE85#16 sync d (fun _ => resumeTimer) s

/-- TIMER_CONT.R (R184): a pending interrupt is not acknowledged. -/
def execTimerContR (sync : Bool) (s : State) : Result := busRead 0xFE85#16 sync zeroRead s

/-- TIMER_INVALID (R185): a no-op write, a zero read. -/
def execTimerInvalid (sync : Bool) (off : BitVec 5) (acc : Access) (s : State) : Result :=
  busAccess (0x7F4#11 ++ off) sync acc zeroRead ignoreWrite s

end Sys2Proof.Machine
end

