-- ==== Sys2Proof/Machine/Dispatch.lean ====
section
/-! DEFINITION. What one event does: one arm per constructor of `Instr`. -/

namespace Sys2Proof.Machine

def exec (i : Instr) (s : State) : Host.Outcome State Fault Refusal :=
  match i with
  | .init => Sys2Proof.Machine.execInit s
  | .tick => Sys2Proof.Machine.execTick s
  | .reservedKind => Sys2Proof.Machine.execReservedKind s
  | .diskSelect sync => Sys2Proof.Machine.execDiskSelect sync s
  | .diskSeek sync => Sys2Proof.Machine.execDiskSeek sync s
  | .diskCmdReserved sync data => Sys2Proof.Machine.execDiskCmdReserved sync data s
  | .diskCommandR sync => Sys2Proof.Machine.execDiskCommandR sync s
  | .diskParam0W sync data => Sys2Proof.Machine.execDiskParam0W sync data s
  | .diskParam0R sync => Sys2Proof.Machine.execDiskParam0R sync s
  | .diskParam1W sync data => Sys2Proof.Machine.execDiskParam1W sync data s
  | .diskParam1R sync => Sys2Proof.Machine.execDiskParam1R sync s
  | .diskDataWA sync data => Sys2Proof.Machine.execDiskDataWA sync data s
  | .diskDataRA sync => Sys2Proof.Machine.execDiskDataRA sync s
  | .diskStatusRA sync => Sys2Proof.Machine.execDiskStatusRA sync s
  | .diskStatusWA sync data => Sys2Proof.Machine.execDiskStatusWA sync data s
  | .diskParam2W sync data => Sys2Proof.Machine.execDiskParam2W sync data s
  | .diskParam2R sync => Sys2Proof.Machine.execDiskParam2R sync s
  | .diskParam3W sync data => Sys2Proof.Machine.execDiskParam3W sync data s
  | .diskParam3R sync => Sys2Proof.Machine.execDiskParam3R sync s
  | .diskDataWB sync data => Sys2Proof.Machine.execDiskDataWB sync data s
  | .diskDataRB sync => Sys2Proof.Machine.execDiskDataRB sync s
  | .diskStatusRB sync => Sys2Proof.Machine.execDiskStatusRB sync s
  | .diskStatusWB sync data => Sys2Proof.Machine.execDiskStatusWB sync data s
  | .timerTargetW sync data => Sys2Proof.Machine.execTimerTargetW sync data s
  | .timerTargetR sync => Sys2Proof.Machine.execTimerTargetR sync s
  | .timerCountW sync data => Sys2Proof.Machine.execTimerCountW sync data s
  | .timerCountR sync => Sys2Proof.Machine.execTimerCountR sync s
  | .timerResetW sync data => Sys2Proof.Machine.execTimerResetW sync data s
  | .timerResetR sync => Sys2Proof.Machine.execTimerResetR sync s
  | .timerTrigW sync data => Sys2Proof.Machine.execTimerTrigW sync data s
  | .timerTrigR sync => Sys2Proof.Machine.execTimerTrigR sync s
  | .timerPauseW sync data => Sys2Proof.Machine.execTimerPauseW sync data s
  | .timerPauseR sync => Sys2Proof.Machine.execTimerPauseR sync s
  | .timerContW sync data => Sys2Proof.Machine.execTimerContW sync data s
  | .timerContR sync => Sys2Proof.Machine.execTimerContR sync s
  | .diskInvalid sync off acc => Sys2Proof.Machine.execDiskInvalid sync off acc s
  | .timerInvalid sync off acc => Sys2Proof.Machine.execTimerInvalid sync off acc s
  | .memR sync addr => Sys2Proof.Machine.execMemR sync addr s
  | .memW sync addr data => Sys2Proof.Machine.execMemW sync addr data s

end Sys2Proof.Machine
end

