-- ==== Sys2Proof/Machine/Step.lean ====
section
/-! DEFINITION. One step: the oldest waiting event word is decoded and served (R9, R69, R70). -/

namespace Sys2Proof.Machine

/-- Serves the oldest waiting event. With none waiting nothing acts on the block and its state stays (R345: it never stops
of its own accord). -/
def step (s : State) : Host.Outcome State Fault Refusal :=
  match s.events with
  | [] => .next s
  | w :: rest => exec (decode s.cfg w) { s with events := rest }

/-- `s` with an event word put where the next step takes it (host interface): ahead of every waiting event. A number of more
than 28 bits is no event word and changes nothing. -/
def State.withFetchWord (s : State) (nbits w : Nat) : State :=
  match eventWordOf (w % 2 ^ nbits) with
  | .ok ev => { s with events := ev :: s.events }
  | .error _ => s

end Sys2Proof.Machine
end

