-- ==== Sys2Proof/Machine/BusCycle.lean ====
section
/-! DEFINITION. A bus cycle on the physical lines (`44_dispatcher.md` R260): what the Dispatcher senses, and what the CPU puts
on the lines for an event word. -/

namespace Sys2Proof.Machine

/-- The event word a bus cycle's control and line levels stand for: `readControl`, `gatherAddr` and, on a write,
`gatherData`. -/
def sensedWord (c : Config) (ctl : Control) (L : Lines) : EventWord :=
  if (readControl c.polarity ctl).1 then readWord (readControl c.polarity ctl).2 (gatherAddr c.wiring L)
  else writeWord (readControl c.polarity ctl).2 (gatherAddr c.wiring L) (gatherData c.wiring L)

/-- One bus cycle of the Dispatcher from the physical levels (R260). -/
def busCycleOnLines (ctl : Control) (L : Lines) (s : State) : Result := exec (decode s.cfg (sensedWord s.cfg ctl L)) s

/-- The control levels of a bus cycle's word. -/
def controlOf (p : Polarity) (w : EventWord) : Control where
  rwLevel := if rwOf w then p.read else !p.read
  syncLevel := if syncOf w then p.sync else !p.sync

/-- The line levels while the CPU performs a bus cycle: it drives the address lines and, on a write, the data lines; `L` is
on every other line. -/
def cpuLines (wr : Wiring) (w : EventWord) (L : Lines) : Lines :=
  scatterAddr wr (addrOf w) (if rwOf w then L else scatterData wr (dataOf w) L)

end Sys2Proof.Machine
end

