-- ==== Sys2Proof/Safety.lean ====
section
/-! DEFINITION. The terms statements are made in: a configuration the spec admits, the invariants of a state, the frames of a
bus cycle, and runs over several events. -/

namespace Sys2Proof.Machine

/-! ## Invariants -/

/-- The wiring maps are injective with disjoint ranges inside the lines that exist (R6, R98). -/
def wiringWf (w : Wiring) : Bool :=
  decide (w.addrLine.length = 16) && decide (w.dataLine.length = 8) && decide (w.addrLine ++ w.dataLine).Nodup &&
  (w.addrLine ++ w.dataLine).all (fun n => decide (n < w.nlines))

/-- A configuration R6 admits: windows that hold their registers and at most 32 addresses, 1 to 16 memory address bits,
images in canonical form and inside their spaces, a wiring that loses nothing. -/
def configWf (c : Config) : Bool :=
  decide (diskNReg c.variant ≤ c.diskWindowLen ∧ c.diskWindowLen ≤ 32) &&
  decide (timerNReg ≤ c.timerWindowLen ∧ c.timerWindowLen ≤ 32) &&
  decide (1 ≤ c.memAddrBits ∧ c.memAddrBits ≤ 16) &&
  c.memInit.wf && c.memInit.below (2 ^ c.memAddrBits) &&
  wiringWf c.wiring &&
  c.storeInit.wf && (decide (c.storeKind = .general) || c.storeInit.below c.storeSize)

/-- The decided window lengths (D3): each window is exactly its registers. -/
def windowsDecided (c : Config) : Bool :=
  decide (c.diskWindowLen = diskNReg c.variant) && decide (c.timerWindowLen = timerNReg)

/-- R30, as corrected by C2 and C3. -/
structure TimerInv (t : Timer) : Prop where
  triggered : t.mode = .triggered → t.irq = true
  running   : t.mode = .running → t.irq = false
  bounded   : 1 ≤ t.target.toNat → t.ticks.toNat < t.target.toNat

/-- R33, R36: the status is NOK while the store is unavailable, and there are `DISK_NPARAM` parameter registers. -/
structure DiskInv (c : Config) (d : Disk) : Prop where
  unavailable : c.storeOpen = false → d.status = .nok
  params      : d.param.length = (diskConfig c.variant).nparam

/-- What holds of the block after INIT and after every event. -/
structure StateInv (s : State) : Prop where
  cfg        : configWf s.cfg = true
  addrDir    : s.xcvr.addrDir = .sample
  timer      : TimerInv s.timer
  disk       : DiskInv s.cfg s.disk
  memWf      : s.mem.wf = true
  memBelow   : s.mem.below (2 ^ s.cfg.memAddrBits) = true
  storeWf    : s.store.bytes.wf = true
  storeBelow : s.cfg.storeKind = .reference → s.store.bytes.below s.cfg.storeSize = true

/-! ## Frames -/

/-- Every byte of the MemoryImage reads as before. -/
def SameMemory (s t : State) : Prop := ∀ k, t.mem.read k = s.mem.read k

/-- The position and every byte of the backing store are as before. -/
def SameStore (s t : State) : Prop := t.store.pos = s.store.pos ∧ ∀ k, t.store.bytes.read k = s.store.bytes.read k

/-- The switches a cycle costs that needs direction `e` while `d` is in force (R264). -/
def switchCost (d e : Direction) : Nat := if d = e then 0 else 1

/-- What every bus cycle leaves alone: the parameters, the event queue, the address bus direction. -/
def SameInputs (s t : State) : Prop :=
  t.cfg = s.cfg ∧ t.events = s.events ∧ t.xcvr.addrDir = s.xcvr.addrDir ∧ t.initOpen = false

/-- The transceiver and the BusState record after a write cycle (R260, R264): the data bus in SAMPLE, nothing driven, one
switch if it was in DRIVE. -/
def WriteCycle (a : Addr) (sync : Bool) (v : Byte) (s t : State) : Prop :=
  SameInputs s t ∧ t.xcvr.dataDir = .sample ∧ t.xcvr.dataOut = s.xcvr.dataOut ∧
  t.switches = s.switches + switchCost s.xcvr.dataDir .sample ∧
  t.bus = some { address := a, data := v, direction := .sample, isOpcodeFetch := sync }

/-- The transceiver and the BusState record after a read cycle that answers `v` (R260, R264): the data bus in DRIVE with `v`
on it, one switch if it was in SAMPLE. -/
def ReadCycle (a : Addr) (sync : Bool) (v : Byte) (s t : State) : Prop :=
  SameInputs s t ∧ t.xcvr.dataDir = .drive ∧ t.xcvr.dataOut = v ∧
  t.switches = s.switches + switchCost s.xcvr.dataDir .drive ∧
  t.bus = some { address := a, data := v, direction := .drive, isOpcodeFetch := sync }

/-- Nothing but the transceiver changes: no peripheral, no memory, no store (R67). -/
def NothingElse (s t : State) : Prop :=
  t.timer = s.timer ∧ t.disk = s.disk ∧ SameStore s t ∧ SameMemory s t ∧ t.raised = none

/-- Only the timer may change beside the transceiver. -/
def OnlyTimer (s t : State) : Prop := t.disk = s.disk ∧ SameStore s t ∧ SameMemory s t ∧ t.raised = none

/-! ## Runs -/

/-- Serves events one after another, stopping at the first fault or refusal (R69). -/
def runEvents : List Instr → State → Result
  | [], s => .next s
  | i :: is, s =>
    match exec i s with
    | .next t => runEvents is t
    | .fault f => .fault f
    | .refused r => .refused r

/-- The data-bus direction an event needs (R25, R264): none if it is no bus cycle. -/
def neededDirection : Instr → Option Direction
  | .init => none
  | .tick => none
  | .reservedKind => none
  | .diskSelect _ => some .sample
  | .diskSeek _ => some .sample
  | .diskCmdReserved _ _ => some .sample
  | .diskCommandR _ => some .drive
  | .diskParam0W _ _ => some .sample
  | .diskParam0R _ => some .drive
  | .diskParam1W _ _ => some .sample
  | .diskParam1R _ => some .drive
  | .diskDataWA _ _ => some .sample
  | .diskDataRA _ => some .drive
  | .diskStatusRA _ => some .drive
  | .diskStatusWA _ _ => some .sample
  | .diskParam2W _ _ => some .sample
  | .diskParam2R _ => some .drive
  | .diskParam3W _ _ => some .sample
  | .diskParam3R _ => some .drive
  | .diskDataWB _ _ => some .sample
  | .diskDataRB _ => some .drive
  | .diskStatusRB _ => some .drive
  | .diskStatusWB _ _ => some .sample
  | .timerTargetW _ _ => some .sample
  | .timerTargetR _ => some .drive
  | .timerCountW _ _ => some .sample
  | .timerCountR _ => some .drive
  | .timerResetW _ _ => some .sample
  | .timerResetR _ => some .drive
  | .timerTrigW _ _ => some .sample
  | .timerTrigR _ => some .drive
  | .timerPauseW _ _ => some .sample
  | .timerPauseR _ => some .drive
  | .timerContW _ _ => some .sample
  | .timerContR _ => some .drive
  | .diskInvalid _ _ acc => some (match acc with
    | .read => .drive
    | .write _ => .sample)
  | .timerInvalid _ _ acc => some (match acc with
    | .read => .drive
    | .write _ => .sample)
  | .memR _ _ => some .drive
  | .memW _ _ _ => some .sample

/-- Whether an event is a bus cycle (R90: kind 00). -/
def isBusCycle (i : Instr) : Bool := (neededDirection i).isSome

/-- Whether an event is an access to DISK_DATA: a read or a write, in either variant. -/
def isDiskData : Instr → Bool
  | .diskDataWA _ _ => true
  | .diskDataRA _ => true
  | .diskDataWB _ _ => true
  | .diskDataRB _ => true
  | _ => false

/-- Whether an event is a cycle addressed to the Disk Peripheral. -/
def isDiskCycle : Instr → Bool
  | .diskSelect _ => true
  | .diskSeek _ => true
  | .diskCmdReserved _ _ => true
  | .diskCommandR _ => true
  | .diskParam0W _ _ => true
  | .diskParam0R _ => true
  | .diskParam1W _ _ => true
  | .diskParam1R _ => true
  | .diskParam2W _ _ => true
  | .diskParam2R _ => true
  | .diskParam3W _ _ => true
  | .diskParam3R _ => true
  | .diskStatusRA _ => true
  | .diskStatusWA _ _ => true
  | .diskStatusRB _ => true
  | .diskStatusWB _ _ => true
  | .diskInvalid _ _ _ => true
  | i => isDiskData i

/-- Whether an event is a cycle addressed to the Timer Peripheral. -/
def isTimerCycle : Instr → Bool
  | .timerTargetW _ _ => true
  | .timerTargetR _ => true
  | .timerCountW _ _ => true
  | .timerCountR _ => true
  | .timerResetW _ _ => true
  | .timerResetR _ => true
  | .timerTrigW _ _ => true
  | .timerTrigR _ => true
  | .timerPauseW _ _ => true
  | .timerPauseR _ => true
  | .timerContW _ _ => true
  | .timerContR _ => true
  | .timerInvalid _ _ _ => true
  | _ => false

/-- How many places of a trace need the other data-bus direction than the one in force (R264). -/
def directionChanges : Direction → List Instr → Nat
  | _, [] => 0
  | d, i :: is =>
    match neededDirection i with
    | none => directionChanges d is
    | some e => switchCost d e + directionChanges e is

end Sys2Proof.Machine
end

