-- ==== Sys2Proof/Certificates/Slice0/Obligations.lean ====
section
/-! DEFINITION. The statements about the model, for the provers. Each docstring names the rule of spec/ it formalises. -/

namespace Sys2Proof.Machine

/-! ## Terms of the statements -/

/-- The canonical word of the same event (R90): bits 25:0 are 0 for TICK, INIT and kind 11, bits 7:0 are 0 for a READ. -/
def canonicalWord (w : EventWord) : EventWord :=
  if kindOf w = 0#2 then (if rwOf w then w &&& 0xFFFFF00#28 else w) else w &&& 0xC000000#28

/-- The outcome without the opcode-fetch flag of the BusState record. -/
def withoutFetchFlag : Result → Result
  | .next t => .next { t with bus := t.bus.map fun r => { r with isOpcodeFetch := false } }
  | .fault f => .fault f
  | .refused r => .refused r

/-- The outcome without the model's records of the event just served (`bus`, `raised`). -/
def withoutRecords : Result → Result
  | .next t => .next { t with bus := none, raised := none }
  | .fault f => .fault f
  | .refused r => .refused r

/-- The outcome with another disk, store and draw count put into the next state. -/
def withDisk (d : Disk) (st : Store) (n : Nat) : Result → Result
  | .next t => .next { t with disk := d, store := st, draws := n }
  | .fault f => .fault f
  | .refused r => .refused r

/-- Which disk accesses `DeviceUnavailable` is raised by (R211, R291): writes to DISK_COMMAND, DISK_PARAM_i and DISK_DATA,
reads of DISK_DATA. -/
def raisesUnavailable : Instr → Bool
  | .diskSelect _ => true
  | .diskSeek _ => true
  | .diskCmdReserved _ _ => true
  | .diskParam0W _ _ => true
  | .diskParam1W _ _ => true
  | .diskParam2W _ _ => true
  | .diskParam3W _ _ => true
  | i => isDiskData i

/-- A read of DISK_STATUS. -/
def isStatusRead : Instr → Bool
  | .diskStatusRA _ => true
  | .diskStatusRB _ => true
  | _ => false

/-- The byte a DISK_DATA write stores. -/
def storedByte : Instr → Option Byte
  | .diskDataWA _ v => some v
  | .diskDataWB _ v => some v
  | _ => none

/-- What R187 lets fall between two triggers: every event but INIT and the writes that start, fire or pause the timer. -/
def keepsPhase : Instr → Bool
  | .init => false
  | .reservedKind => false
  | .timerTargetW _ _ => false
  | .timerResetW _ _ => false
  | .timerTrigW _ _ => false
  | .timerPauseW _ _ => false
  | _ => true

/-- An event that starts a period, and the target the period then has (R187). -/
def armsWith (s : State) : Instr → Option Byte
  | .timerTargetW _ v => some v
  | .timerResetW _ _ => some s.timer.target
  | .timerTrigW _ _ => some s.timer.target
  | _ => none

end Sys2Proof.Machine

open Sys2Proof Sys2Proof.Machine

/-! ## Encoding and decoding -/

/-- R90, R92, R99: decoding the word of an event of the configuration gives the event back, every operand at every value. -/
def Obligations.DecodeOfEncodeIsTheEvent : Prop :=
  ∀ (c : Config) (i : Instr), configWf c = true → WellFormed c i = true → decode c (encode i) = i

/-- R90: encoding what a word decodes to gives the word back with the ignored bits at 0. -/
def Obligations.EncodeOfDecodeIsTheCanonicalWord : Prop :=
  ∀ (c : Config) (w : EventWord), configWf c = true → encode (decode c w) = canonicalWord w

/-- R99: the decoder selects the operation of the first row of spec/opcode_table.json that matches the word. -/
def Obligations.DecoderFollowsTheOpcodeTable : Prop :=
  ∀ (c : Config) (w : EventWord), configWf c = true →
    (tableRowOf c w).map TableRow.mnemonic = some (mnemonic (decode c w))

/-- R99, R100: every word decodes to an event of the configuration. -/
def Obligations.DecodedEventsAreWellFormed : Prop :=
  ∀ (c : Config) (w : EventWord), configWf c = true → WellFormed c (decode c w) = true

/-- Words of `95_test_vectors.md` section 2.6, variant B. -/
def Obligations.SampleWordsDecode : Prop :=
  decode Config.reference 0x8000000#28 = .init ∧
  decode Config.reference 0x7FFFFFF#28 = .tick ∧
  decode Config.reference 0x2FE6001#28 = .diskSeek true ∧
  decode Config.reference 0x0FE63AA#28 = .diskParam2W false 0xAA#8 ∧
  decode Config.reference 0x1FE6500#28 = .diskDataRB false ∧
  decode Config.reference 0x0FE800A#28 = .timerTargetW false 0x0A#8 ∧
  decode Config.reference 0x3FE8100#28 = .timerCountR true ∧
  decode Config.reference 0x00200EA#28 = .memW false 0x0200#16 0xEA#8

/-- R61: the address map of each variant under the decided windows (D3). -/
def Obligations.AddressMapOfEachVariant : Prop :=
  ∀ (c : Config) (a : Addr), windowsDecided c = true →
    let diskEnd := match c.variant with
      | .A => 0xFE64
      | .B => 0xFE66
    portDecode c a =
      if 0xFE60 ≤ a.toNat ∧ a.toNat ≤ diskEnd then .peripheral .disk (BitVec.ofNat 8 (a.toNat - 0xFE60))
      else if 0xFE80 ≤ a.toNat ∧ a.toNat ≤ 0xFE85 then .peripheral .timer (BitVec.ofNat 8 (a.toNat - 0xFE80))
      else .memory

/-- R154: whatever the admitted window lengths, no address lies in both windows. -/
def Obligations.WindowsNeverOverlap : Prop :=
  ∀ c : Config, c.diskWindowLen ≤ 32 → c.timerWindowLen ≤ 32 → ∀ (a : Addr),
    ¬ ((diskBase.toNat ≤ a.toNat ∧ a.toNat < diskBase.toNat + c.diskWindowLen) ∧
       (timerBase.toNat ≤ a.toNat ∧ a.toNat < timerBase.toNat + c.timerWindowLen))

/-- R92: the Port Decoder can be read off the address bits. -/
def Obligations.PortDecoderByBitSlices : Prop :=
  ∀ c : Config, c.diskWindowLen ≤ 32 → c.timerWindowLen ≤ 32 → ∀ (a : Addr),
    portDecode c a =
      if a.extractLsb' 5 11 = 0x7F3#11 ∧ (a.extractLsb' 0 5).toNat < c.diskWindowLen then
        .peripheral .disk ((a.extractLsb' 0 5).setWidth 8)
      else if a.extractLsb' 5 11 = 0x7F4#11 ∧ (a.extractLsb' 0 5).toNat < c.timerWindowLen then
        .peripheral .timer ((a.extractLsb' 0 5).setWidth 8)
      else .memory

/-! ## The step -/

/-- R9, R69: a step serves the oldest waiting event, what its word decodes to, and takes it off the queue; with none waiting
nothing changes (the queue is the model's: notes/assumptions/2.md). -/
def Obligations.StepServesTheOldestEvent : Prop :=
  (∀ (s : State) (w : EventWord) (rest : List EventWord) (i : Instr), s.events = w :: rest → decode s.cfg w = i →
    WellFormed s.cfg i = true → step s = exec i { s with events := rest }) ∧
  (∀ s : State, s.events = [] → step s = .next s)

/-- The invariant of R30, R33, R36 and of the byte images, with the address bus in SAMPLE (R264), is kept by every step, from
every state that has it. -/
def Obligations.EveryStepKeepsTheInvariant : Prop :=
  ∀ s t : State, StateInv s → step s = .next t → StateInv t

/-- Reset meets the invariant. -/
def Obligations.ResetMeetsTheInvariant : Prop := StateInv State.reset

/-- R46: the values the spec gives for reset, in State.reset, under the parameters the model chose (notes/assumptions/1.md and
3.md). -/
def Obligations.ResetHoldsTheSpecsValues : Prop :=
  State.reset.xcvr.addrDir = .sample ∧ State.reset.xcvr.dataDir = .sample ∧
  State.reset.timer = { ticks := 0#16, target := 255#8, mode := .paused, irq := false } ∧
  State.reset.disk.status = (if State.reset.cfg.storeOpen then .ok else .nok) ∧
  State.reset.disk.param = List.replicate (diskConfig State.reset.cfg.variant).nparam 0x00#8 ∧
  State.reset.store.bytes = State.reset.cfg.storeInit ∧ State.reset.store.pos = State.reset.cfg.storeInitPos ∧
  State.reset.mem = State.reset.cfg.memInit

/-- R330 (the spec's choices D12, D16, D18 among its values): what INIT leaves, for every configuration, when no event has
come before it; `dataOut` and `cmd` are not constrained. -/
def Obligations.InitBuildsTheInitialState : Prop :=
  ∀ s : State, s.initOpen = true → ∃ t, exec .init s = .next t ∧
    t.xcvr.addrDir = .sample ∧ t.xcvr.dataDir = .sample ∧
    t.timer = { ticks := 0#16, target := 255#8, mode := .paused, irq := false } ∧
    t.disk.status = (if s.cfg.storeOpen then .ok else .nok) ∧
    t.disk.param = List.replicate (diskConfig s.cfg.variant).nparam 0x00#8 ∧
    (s.cfg.storeOpen = true → t.store.bytes = s.cfg.storeInit ∧ t.store.pos = s.cfg.storeInitPos) ∧
    (s.cfg.storeOpen = false → t.store = s.store) ∧
    t.mem = s.cfg.memInit ∧ t.cfg = s.cfg ∧ t.events = s.events ∧ t.initOpen = false ∧
    t.bus = none ∧ t.raised = none ∧ t.switches = 0

/-- INIT is admitted once, as the first event (R330, the spec's decision D27; the refusal is the model's,
notes/assumptions/3.md): after any event that was served, INIT is refused. -/
def Obligations.InitOnlyAsTheFirstEvent : Prop :=
  (∀ s : State, s.initOpen = false → exec .init s = .refused .secondInit) ∧
  (∀ (i : Instr) (s t : State), exec i s = .next t → exec .init t = .refused .secondInit)

/-- A word of kind 11 is not an event and is refused (R90, R99, R100; notes/assumptions/24.md). -/
def Obligations.ReservedKindIsRefused : Prop :=
  ∀ (c : Config) (w : EventWord) (s : State), kindOf w = 3#2 →
    decode c w = .reservedKind ∧ exec (decode c w) s = .refused .notAnEvent

/-- R20, R38: no event changes the parameters, and serving an event does not touch the waiting ones. -/
def Obligations.NoEventChangesTheParameters : Prop :=
  ∀ (i : Instr) (s t : State), exec i s = .next t → t.cfg = s.cfg ∧ t.events = s.events

/-- R266: from a state whose address bus is in SAMPLE every event but a reserved word and a second INIT has a next state: no
bus cycle and no TICK ever blocks, faults or is refused. -/
def Obligations.TheDispatcherNeverBlocks : Prop :=
  ∀ (i : Instr) (s : State), s.xcvr.addrDir = .sample → i ≠ .reservedKind → (i = .init → s.initOpen = true) →
    ∃ t, exec i s = .next t ∧ t.xcvr.addrDir = .sample

/-- R265 (the spec's decision D21): the opcode-fetch flag is recorded and changes nothing else. -/
def Obligations.OpcodeFetchChangesNothing : Prop :=
  ∀ (s : State) (w : EventWord), kindOf w = 0#2 →
    withoutFetchFlag (exec (decode s.cfg w) s) = withoutFetchFlag (exec (decode s.cfg (w ^^^ 0x2000000#28)) s) ∧
    ∀ t, exec (decode s.cfg w) s = .next t → ∃ r, t.bus = some r ∧ r.isOpcodeFetch = syncOf w

/-- R70: a TICK and a bus cycle that is no timer access give the same state in either order. -/
def Obligations.TickCommutesWithOtherCycles : Prop :=
  ∀ (i : Instr) (s : State), isBusCycle i = true → isTimerCycle i = false →
    withoutRecords (runEvents [.tick, i] s) = withoutRecords (runEvents [i, .tick] s)

/-- R296: memory cycles, timer accesses and TICK behave the same whatever the disk and its store hold, so whatever error came
before. -/
def Obligations.DiskErrorsTouchNothingElse : Prop :=
  ∀ (i : Instr) (s : State) (d : Disk) (st : Store) (n : Nat) (e : Option DiskError),
    isDiskCycle i = false → i ≠ .init →
    exec i { s with disk := d, store := st, draws := n, raised := e } = withDisk d st n (exec i s)

/-! ## The transceiver and the physical lines -/

/-- R126: the remap loses nothing, in both directions, for every pair of injective maps. -/
def Obligations.LineRemapRoundTrips : Prop :=
  ∀ w : Wiring, w.addrLine.length = 16 → w.dataLine.length = 8 → w.addrLine.Nodup → w.dataLine.Nodup → ∀ L : Lines,
    (∀ v, gatherData w (scatterData w v L) = v) ∧ (∀ a, gatherAddr w (scatterAddr w a L) = a) ∧
    scatterData w (gatherData w L) L = L ∧ scatterAddr w (gatherAddr w L) L = L

/-- R260: a bus cycle sensed on the physical lines, whatever stands on the lines of neither bus, is the event its word says. -/
def Obligations.PhysicalCycleIsTheLogicalEvent : Prop :=
  ∀ (s : State) (w : EventWord) (L : Lines), configWf s.cfg = true → kindOf w = 0#2 →
    busCycleOnLines (controlOf s.cfg.polarity w) (cpuLines s.cfg.wiring w L) s = exec (decode s.cfg w) s ∧
    readAddress (cpuLines s.cfg.wiring w L) s = sampleAddress (addrOf w) s ∧
    (rwOf w = false → readData (cpuLines s.cfg.wiring w L) s = sampleData (dataOf w) s)

/-- Loop-back on the block itself: `setDataDirection(DRIVE)` and `writeData(v)` leave `v` held and nothing else changed but
the direction (and the model's switch count, notes/assumptions/14.md); every data line then carries its bit of `v`, every
other line what it carried; after `setDataDirection(SAMPLE)` `readData` of those levels answers `v`. Without the switch
between them each call is TransceiverMisuse (the spec's decision D22, notes/assumptions/23.md). -/
def Obligations.DrivenByteReadsBack : Prop :=
  ∀ (s : State) (v : Byte) (L : Lines), wiringWf s.cfg.wiring = true →
    writeData v (setDataDirection .sample s) = .error .transceiverMisuse ∧
    ∃ t, writeData v (setDataDirection .drive s) = .ok t ∧
      t = { s with xcvr := { s.xcvr with dataDir := .drive, dataOut := v }, switches := s.switches + 1 } ∧
      readData (drivenLines t L) t = .error .transceiverMisuse ∧
      readData (drivenLines t L) (setDataDirection .sample t) = .ok v ∧
      (∀ i n, s.cfg.wiring.dataLine[i]? = some n → drivenLines t L n = v.getLsbD i) ∧
      (∀ n, n ∉ s.cfg.wiring.dataLine → drivenLines t L n = L n)

/-- A bus cycle while the address bus is in DRIVE is TransceiverMisuse (R122, R310: the spec's decision D22,
notes/assumptions/23.md); no other event faults. -/
def Obligations.BusCycleFaultsOnlyWhenTheAddressIsDriven : Prop :=
  ∀ (i : Instr) (s : State) (f : Fault),
    exec i s = .fault f ↔ (isBusCycle i = true ∧ s.xcvr.addrDir = .drive ∧ f = .transceiverMisuse)

/-- R264 (the spec's decision D19; the count is the model's, notes/assumptions/14.md): over any trace of bus cycles and TICKs
the calls of setDataDirection are the places where the cycle needs the other direction, and the data bus ends in the direction
the last cycle needed. -/
def Obligations.SwitchesAreTheDirectionChanges : Prop :=
  ∀ (l : List Instr) (s : State), s.xcvr.addrDir = .sample → (∀ i ∈ l, isBusCycle i = true ∨ i = .tick) →
    ∃ t, runEvents l s = .next t ∧ t.switches = s.switches + directionChanges s.xcvr.dataDir l ∧
      t.xcvr.dataDir = ((l.filterMap neededDirection).getLast?).getD s.xcvr.dataDir

/-- R269: after a read cycle the data lines carry the byte answered; after a write cycle the block drives nothing; the
interrupt line carries timer.irq. -/
def Obligations.WhatTheLinesCarry : Prop :=
  ∀ (i : Instr) (s t : State) (L : Lines), wiringWf s.cfg.wiring = true → exec i s = .next t →
    (neededDirection i = some .drive → gatherData s.cfg.wiring (drivenLines t L) = t.xcvr.dataOut) ∧
    (neededDirection i = some .sample → drivenLines t L = L) ∧
    (irqLevel t = t.cfg.polarity.irq ↔ t.timer.irq = true)

/-! ## The timer -/

/-- R171: TIMER_TARGET.W. -/
def Obligations.TimerTargetWriteArmsTheTimer : Prop :=
  ∀ (sync : Bool) (v : Byte),
    (∀ c, configWf c = true → decode c (writeWord sync 0xFE80#16 v) = .timerTargetW sync v) ∧
    ∀ s : State, s.xcvr.addrDir = .sample → ∃ t, exec (.timerTargetW sync v) s = .next t ∧
      t.timer = { ticks := 0#16, target := v, mode := .running, irq := false } ∧
      OnlyTimer s t ∧ WriteCycle 0xFE80#16 sync v s t

/-- R173: TIMER_RESET.W. -/
def Obligations.TimerResetWriteRestartsThePeriod : Prop :=
  ∀ (sync : Bool) (d : Byte),
    (∀ c, configWf c = true → decode c (writeWord sync 0xFE82#16 d) = .timerResetW sync d) ∧
    ∀ s : State, s.xcvr.addrDir = .sample → ∃ t, exec (.timerResetW sync d) s = .next t ∧
      t.timer = { ticks := 0#16, target := s.timer.target, mode := .running, irq := false } ∧
      OnlyTimer s t ∧ WriteCycle 0xFE82#16 sync d s t

/-- R174: TIMER_TRIG.W. -/
def Obligations.TimerTrigWriteFires : Prop :=
  ∀ (sync : Bool) (d : Byte),
    (∀ c, configWf c = true → decode c (writeWord sync 0xFE83#16 d) = .timerTrigW sync d) ∧
    ∀ s : State, s.xcvr.addrDir = .sample → ∃ t, exec (.timerTrigW sync d) s = .next t ∧
      t.timer = { ticks := 0#16, target := s.timer.target, mode := .triggered, irq := true } ∧
      OnlyTimer s t ∧ WriteCycle 0xFE83#16 sync d s t

/-- R175: TIMER_PAUSE.W. -/
def Obligations.TimerPauseWriteFreezes : Prop :=
  ∀ (sync : Bool) (d : Byte),
    (∀ c, configWf c = true → decode c (writeWord sync 0xFE84#16 d) = .timerPauseW sync d) ∧
    ∀ s : State, s.xcvr.addrDir = .sample → ∃ t, exec (.timerPauseW sync d) s = .next t ∧
      t.timer = { ticks := s.timer.ticks, target := s.timer.target, mode := .paused, irq := s.timer.irq } ∧
      OnlyTimer s t ∧ WriteCycle 0xFE84#16 sync d s t

/-- R176: TIMER_CONT.W. -/
def Obligations.TimerContWriteResumes : Prop :=
  ∀ (sync : Bool) (d : Byte),
    (∀ c, configWf c = true → decode c (writeWord sync 0xFE85#16 d) = .timerContW sync d) ∧
    ∀ s : State, s.xcvr.addrDir = .sample → ∃ t, exec (.timerContW sync d) s = .next t ∧
      t.timer = { ticks := s.timer.ticks, target := s.timer.target, mode := .running, irq := false } ∧
      OnlyTimer s t ∧ WriteCycle 0xFE85#16 sync d s t

/-- R172: TIMER_COUNT.R answers the low 8 bits of the counter (of a negative count too: the spec's decision D26) and changes no
peripheral. -/
def Obligations.TimerCountReadAnswersTheCount : Prop :=
  ∀ sync : Bool,
    (∀ c, configWf c = true → decode c (readWord sync 0xFE81#16) = .timerCountR sync) ∧
    ∀ s : State, s.xcvr.addrDir = .sample → ∃ t, exec (.timerCountR sync) s = .next t ∧
      NothingElse s t ∧ ReadCycle 0xFE81#16 sync (BitVec.ofNat 8 s.timer.ticks.toNat) s t

/-- R179 to R184 (the spec's decision D4, notes/assumptions/26.md): reads of the write-only timer registers answer 0x00, a
write to TIMER_COUNT is ignored, and neither changes a peripheral. -/
def Obligations.UnlistedTimerAccessesDoNothing : Prop :=
  (∀ (c : Config) (sync : Bool) (d : Byte), configWf c = true →
    decode c (readWord sync 0xFE80#16) = .timerTargetR sync ∧ decode c (writeWord sync 0xFE81#16 d) = .timerCountW sync d ∧
    decode c (readWord sync 0xFE82#16) = .timerResetR sync ∧ decode c (readWord sync 0xFE83#16) = .timerTrigR sync ∧
    decode c (readWord sync 0xFE84#16) = .timerPauseR sync ∧ decode c (readWord sync 0xFE85#16) = .timerContR sync) ∧
  ∀ (sync : Bool) (d : Byte) (s : State), s.xcvr.addrDir = .sample →
    (∃ t, exec (.timerTargetR sync) s = .next t ∧ NothingElse s t ∧ ReadCycle 0xFE80#16 sync 0x00#8 s t) ∧
    (∃ t, exec (.timerCountW sync d) s = .next t ∧ NothingElse s t ∧ WriteCycle 0xFE81#16 sync d s t) ∧
    (∃ t, exec (.timerResetR sync) s = .next t ∧ NothingElse s t ∧ ReadCycle 0xFE82#16 sync 0x00#8 s t) ∧
    (∃ t, exec (.timerTrigR sync) s = .next t ∧ NothingElse s t ∧ ReadCycle 0xFE83#16 sync 0x00#8 s t) ∧
    (∃ t, exec (.timerPauseR sync) s = .next t ∧ NothingElse s t ∧ ReadCycle 0xFE84#16 sync 0x00#8 s t) ∧
    (∃ t, exec (.timerContR sync) s = .next t ∧ NothingElse s t ∧ ReadCycle 0xFE85#16 sync 0x00#8 s t)

/-- R155, R185, R225: at an offset of a widened window past the peripheral's registers a write changes nothing and a read
answers 0x00; the disk status is not touched. -/
def Obligations.InvalidOffsetsDoNothing : Prop :=
  (∀ (c : Config) (sync : Bool) (off : BitVec 5) (d : Byte), configWf c = true →
    (timerNReg ≤ off.toNat → off.toNat < c.timerWindowLen →
      decode c (readWord sync (timerBase + off.setWidth 16)) = .timerInvalid sync off .read ∧
      decode c (writeWord sync (timerBase + off.setWidth 16) d) = .timerInvalid sync off (.write d)) ∧
    (diskNReg c.variant ≤ off.toNat → off.toNat < c.diskWindowLen →
      decode c (readWord sync (diskBase + off.setWidth 16)) = .diskInvalid sync off .read ∧
      decode c (writeWord sync (diskBase + off.setWidth 16) d) = .diskInvalid sync off (.write d))) ∧
  ∀ (sync : Bool) (off : BitVec 5) (d : Byte) (s : State), s.xcvr.addrDir = .sample →
    (∃ t, exec (.timerInvalid sync off .read) s = .next t ∧ NothingElse s t ∧
      ReadCycle (timerBase + off.setWidth 16) sync 0x00#8 s t) ∧
    (∃ t, exec (.timerInvalid sync off (.write d)) s = .next t ∧ NothingElse s t ∧
      WriteCycle (timerBase + off.setWidth 16) sync d s t) ∧
    (∃ t, exec (.diskInvalid sync off .read) s = .next t ∧ NothingElse s t ∧
      ReadCycle (diskBase + off.setWidth 16) sync 0x00#8 s t) ∧
    (∃ t, exec (.diskInvalid sync off (.write d)) s = .next t ∧ NothingElse s t ∧
      WriteCycle (diskBase + off.setWidth 16) sync d s t)

/-- R177: TICK; nothing but the timer changes. That a TICK in PAUSED does nothing and that the counter wraps are the spec's
decisions D7 and D9. -/
def Obligations.TickCountsAndFires : Prop :=
  (∀ (c : Config) (w : EventWord), kindOf w = 1#2 → decode c w = .tick) ∧
  ∀ s : State, ∃ t, exec .tick s = .next t ∧
    (s.timer.mode = .paused → t.timer = s.timer) ∧
    (s.timer.mode ≠ .paused → (s.timer.target.setWidth 16).toInt ≤ (s.timer.ticks + 1#16).toInt →
      t.timer = { ticks := s.timer.ticks + 1#16 - s.timer.target.setWidth 16, target := s.timer.target,
                  mode := .triggered, irq := true }) ∧
    (s.timer.mode ≠ .paused → (s.timer.ticks + 1#16).toInt < (s.timer.target.setWidth 16).toInt →
      t.timer = { s.timer with ticks := s.timer.ticks + 1#16 }) ∧
    OnlyTimer s t ∧ t.xcvr = s.xcvr ∧ t.cfg = s.cfg ∧ t.events = s.events ∧ t.switches = s.switches ∧
    t.initOpen = false ∧ t.bus = none

/-- R187: after a period is started with a target T of at least 1, the n-th TICK leaves the count at n mod T and the line
rises exactly at the multiples of T, whatever other events fall between, writes to TARGET, RESET, TRIG and PAUSE apart. -/
def Obligations.PeriodicTriggersKeepTheirPhase : Prop :=
  ∀ (s : State) (arm : Instr) (T : Byte) (l : List Instr), s.xcvr.addrDir = .sample →
    armsWith s arm = some T → 1 ≤ T.toNat → (∀ i ∈ l, keepsPhase i = true) →
    ∃ t, runEvents (arm :: l) s = .next t ∧ t.timer.target = T ∧
      t.timer.ticks.toNat = l.count Instr.tick % T.toNat ∧
      ∀ l' i, l = l' ++ [i] → ∃ u, runEvents (arm :: l') s = .next u ∧
        (i = .tick → l.count Instr.tick % T.toNat = 0 → t.timer.mode = .triggered ∧ t.timer.irq = true) ∧
        (i = .tick → l.count Instr.tick % T.toNat ≠ 0 → t.timer.mode = u.timer.mode ∧ t.timer.irq = u.timer.irq) ∧
        (i ≠ .tick → u.timer.irq = false → t.timer.irq = false)

/-- With target 0 (R189; the wrap is the spec's decision D9 in R190) every TICK after arming leaves the line asserted and the
counter counts on, modulo 2^16; at a negative count a TICK does not fire. -/
def Obligations.ZeroTargetFiresAndWraps : Prop :=
  (∀ (s : State) (sync : Bool) (n : Nat), s.xcvr.addrDir = .sample →
    ∃ t, runEvents (.timerTargetW sync 0x00#8 :: List.replicate n .tick) s = .next t ∧
      t.timer.ticks = BitVec.ofNat 16 n ∧ t.timer.target = 0x00#8 ∧
      (1 ≤ n → t.timer.mode = .triggered ∧ t.timer.irq = true)) ∧
  (∀ s : State, s.timer.target = 0x00#8 → s.timer.mode ≠ .paused → (s.timer.ticks + 1#16).toInt < 0 →
    ∃ t, exec .tick s = .next t ∧ t.timer = { s.timer with ticks := s.timer.ticks + 1#16 })

/-- R298: what asserts the interrupt line: a TICK that ends a period, a write to TIMER_TRIG, and nothing else. -/
def Obligations.WhatAssertsTheLine : Prop :=
  ∀ (i : Instr) (s t : State), exec i s = .next t → s.timer.irq = false →
    (t.timer.irq = true ↔
      (i = .tick ∧ s.timer.mode ≠ .paused ∧ (s.timer.target.setWidth 16).toInt ≤ (s.timer.ticks + 1#16).toInt) ∨
      ∃ sync d, i = .timerTrigW sync d)

/-- R299: what deasserts the interrupt line: writes to TIMER_TARGET, TIMER_RESET, TIMER_CONT, and INIT; nothing else. -/
def Obligations.WhatDeassertsTheLine : Prop :=
  ∀ (i : Instr) (s t : State), exec i s = .next t → s.timer.irq = true →
    (t.timer.irq = false ↔
      (∃ sync d, i = .timerTargetW sync d) ∨ (∃ sync d, i = .timerResetW sync d) ∨ (∃ sync d, i = .timerContW sync d) ∨
      i = .init)

/-! ## The disk -/

/-- R212: DISK_SELECT. -/
def Obligations.SelectReportsAvailability : Prop :=
  ∀ sync : Bool,
    (∀ c, configWf c = true → decode c (writeWord sync 0xFE60#16 0x00#8) = .diskSelect sync) ∧
    ∀ s : State, s.xcvr.addrDir = .sample → ∃ t, exec (.diskSelect sync) s = .next t ∧
      (s.cfg.storeOpen = true → t.disk = { s.disk with cmd := 0x00#8, status := .ok } ∧ t.raised = none) ∧
      (s.cfg.storeOpen = false → t.disk = { s.disk with status := .nok } ∧ t.raised = some .deviceUnavailable) ∧
      t.timer = s.timer ∧ SameStore s t ∧ SameMemory s t ∧ WriteCycle 0xFE60#16 sync 0x00#8 s t

/-- R213: DISK_SEEK. `seekSucceeds` is the store's answer; after a rejected seek the position is not constrained. -/
def Obligations.SeekPositionsTheStore : Prop :=
  ∀ sync : Bool,
    (∀ c, configWf c = true → decode c (writeWord sync 0xFE60#16 0x01#8) = .diskSeek sync) ∧
    ∀ s : State, s.xcvr.addrDir = .sample → ∃ t, exec (.diskSeek sync) s = .next t ∧
      (s.cfg.storeOpen = false →
        t.disk = { s.disk with status := .nok } ∧ t.store.pos = s.store.pos ∧ t.raised = some .deviceUnavailable) ∧
      (s.cfg.storeOpen = true → seekSucceeds (blockNumber s.disk.param * 512) s = true →
        t.disk = { s.disk with cmd := 0x01#8, status := .ok } ∧ t.store.pos = blockNumber s.disk.param * 512 ∧
        t.raised = none) ∧
      (s.cfg.storeOpen = true → seekSucceeds (blockNumber s.disk.param * 512) s = false →
        t.disk = { s.disk with cmd := 0x01#8, status := .nok } ∧ t.raised = some .seekRejected) ∧
      (∀ k, t.store.bytes.read k = s.store.bytes.read k) ∧
      t.timer = s.timer ∧ SameMemory s t ∧ WriteCycle 0xFE60#16 sync 0x01#8 s t

/-- R214 (the spec's decision D14; the status is a free value, notes/assumptions/9.md): DISK_CMD_RESERVED. With the store
available the status is not constrained. -/
def Obligations.ReservedCommandIsLatched : Prop :=
  ∀ (sync : Bool) (d : Byte),
    (∀ c, configWf c = true → d ≠ 0x00#8 → d ≠ 0x01#8 → decode c (writeWord sync 0xFE60#16 d) = .diskCmdReserved sync d) ∧
    ∀ s : State, s.xcvr.addrDir = .sample → ∃ t, exec (.diskCmdReserved sync d) s = .next t ∧
      (s.cfg.storeOpen = true → t.disk.cmd = d ∧ t.raised = none) ∧
      (s.cfg.storeOpen = false → t.disk = { s.disk with status := .nok } ∧ t.raised = some .deviceUnavailable) ∧
      t.disk.param = s.disk.param ∧
      t.timer = s.timer ∧ SameStore s t ∧ SameMemory s t ∧ WriteCycle 0xFE60#16 sync d s t

/-- R215 to R218 (that the status stays is the spec's decision D13): a write to DISK_PARAM_i latches the byte, or is rejected
while the store is unavailable. -/
def Obligations.ParamWritesLatch : Prop :=
  ∀ (sync : Bool) (v : Byte),
    (∀ c, configWf c = true →
      decode c (writeWord sync 0xFE61#16 v) = .diskParam0W sync v ∧
      decode c (writeWord sync 0xFE62#16 v) = .diskParam1W sync v ∧
      (c.variant = .B → decode c (writeWord sync 0xFE63#16 v) = .diskParam2W sync v ∧
        decode c (writeWord sync 0xFE64#16 v) = .diskParam3W sync v)) ∧
    ∀ (s : State) (i : Instr) (k : Nat) (a : Addr), s.xcvr.addrDir = .sample →
      (i, k, a) ∈ [(Instr.diskParam0W sync v, 0, 0xFE61#16), (.diskParam1W sync v, 1, 0xFE62#16),
                   (.diskParam2W sync v, 2, 0xFE63#16), (.diskParam3W sync v, 3, 0xFE64#16)] →
      ∃ t, exec i s = .next t ∧
        (s.cfg.storeOpen = true → t.disk.status = s.disk.status ∧ t.disk.cmd = s.disk.cmd ∧ t.raised = none ∧
          t.disk.param.length = s.disk.param.length ∧ (k < s.disk.param.length → t.disk.param[k]? = some v) ∧
          ∀ j, j ≠ k → t.disk.param[j]? = s.disk.param[j]?) ∧
        (s.cfg.storeOpen = false → t.disk = { s.disk with status := .nok } ∧ t.raised = some .deviceUnavailable) ∧
        t.timer = s.timer ∧ SameStore s t ∧ SameMemory s t ∧ WriteCycle a sync v s t

/-- R219: DISK_DATA.R in each variant. `readSucceeds` is the store's answer. -/
def Obligations.DataReadStreams : Prop :=
  ∀ sync : Bool,
    (∀ c, configWf c = true →
      (c.variant = .A → decode c (readWord sync 0xFE63#16) = .diskDataRA sync) ∧
      (c.variant = .B → decode c (readWord sync 0xFE65#16) = .diskDataRB sync)) ∧
    ∀ (s : State) (i : Instr) (a : Addr), s.xcvr.addrDir = .sample →
      (i, a) ∈ [(Instr.diskDataRA sync, 0xFE63#16), (.diskDataRB sync, 0xFE65#16)] →
      ∃ t, exec i s = .next t ∧
        (s.cfg.storeOpen = true → readSucceeds s = true →
          ReadCycle a sync (s.store.bytes.read s.store.pos) s t ∧ t.store.pos = s.store.pos + 1 ∧
          t.disk = { s.disk with status := .ok } ∧ t.raised = none) ∧
        (s.cfg.storeOpen = true → readSucceeds s = false →
          ReadCycle a sync 0x00#8 s t ∧ t.disk = { s.disk with status := .nok } ∧ t.raised = some .transferRejected) ∧
        (s.cfg.storeOpen = false →
          ReadCycle a sync 0x00#8 s t ∧ t.disk = { s.disk with status := .nok } ∧ t.raised = some .deviceUnavailable ∧
          t.store.pos = s.store.pos) ∧
        (∀ k, t.store.bytes.read k = s.store.bytes.read k) ∧ t.timer = s.timer ∧ SameMemory s t

/-- R220: DISK_DATA.W in each variant. `writeSucceeds` is the store's answer. -/
def Obligations.DataWriteStreams : Prop :=
  ∀ (sync : Bool) (v : Byte),
    (∀ c, configWf c = true →
      (c.variant = .A → decode c (writeWord sync 0xFE63#16 v) = .diskDataWA sync v) ∧
      (c.variant = .B → decode c (writeWord sync 0xFE65#16 v) = .diskDataWB sync v)) ∧
    ∀ (s : State) (i : Instr) (a : Addr), s.xcvr.addrDir = .sample → s.store.bytes.wf = true →
      (i, a) ∈ [(Instr.diskDataWA sync v, 0xFE63#16), (.diskDataWB sync v, 0xFE65#16)] →
      ∃ t, exec i s = .next t ∧ WriteCycle a sync v s t ∧
        (s.cfg.storeOpen = true → writeSucceeds s = true →
          t.store.bytes.read s.store.pos = v ∧ t.store.pos = s.store.pos + 1 ∧
          (∀ k, k ≠ s.store.pos → t.store.bytes.read k = s.store.bytes.read k) ∧
          t.disk = { s.disk with status := .ok } ∧ t.raised = none) ∧
        (s.cfg.storeOpen = true → writeSucceeds s = false →
          (∀ k, t.store.bytes.read k = s.store.bytes.read k) ∧
          t.disk = { s.disk with status := .nok } ∧ t.raised = some .transferRejected) ∧
        (s.cfg.storeOpen = false →
          SameStore s t ∧ t.disk = { s.disk with status := .nok } ∧ t.raised = some .deviceUnavailable) ∧
        t.timer = s.timer ∧ SameMemory s t

/-- R221 (a read leaves the status: the spec's decision D13): DISK_STATUS.R in each variant; 0x01 whenever the store is
unavailable (R211). -/
def Obligations.StatusReadAnswersTheStatus : Prop :=
  ∀ sync : Bool,
    (∀ c, configWf c = true →
      (c.variant = .A → decode c (readWord sync 0xFE64#16) = .diskStatusRA sync) ∧
      (c.variant = .B → decode c (readWord sync 0xFE66#16) = .diskStatusRB sync)) ∧
    ∀ (s : State) (i : Instr) (a : Addr), s.xcvr.addrDir = .sample →
      (i, a) ∈ [(Instr.diskStatusRA sync, 0xFE64#16), (.diskStatusRB sync, 0xFE66#16)] →
      ∃ t, exec i s = .next t ∧ NothingElse s t ∧
        (DiskInv s.cfg s.disk → ReadCycle a sync (if s.disk.status = .ok then 0x00#8 else 0x01#8) s t) ∧
        (s.cfg.storeOpen = false → ReadCycle a sync 0x01#8 s t)

/-- R222 to R224 (the spec's decision D4, notes/assumptions/26.md): reads of DISK_COMMAND and DISK_PARAM_i answer 0x00, a
write to DISK_STATUS is ignored. -/
def Obligations.UnlistedDiskAccessesDoNothing : Prop :=
  (∀ (c : Config) (sync : Bool) (d : Byte), configWf c = true →
    decode c (readWord sync 0xFE60#16) = .diskCommandR sync ∧ decode c (readWord sync 0xFE61#16) = .diskParam0R sync ∧
    decode c (readWord sync 0xFE62#16) = .diskParam1R sync ∧
    (c.variant = .A → decode c (writeWord sync 0xFE64#16 d) = .diskStatusWA sync d) ∧
    (c.variant = .B → decode c (readWord sync 0xFE63#16) = .diskParam2R sync ∧
      decode c (readWord sync 0xFE64#16) = .diskParam3R sync ∧
      decode c (writeWord sync 0xFE66#16 d) = .diskStatusWB sync d)) ∧
  ∀ (sync : Bool) (d : Byte) (s : State), s.xcvr.addrDir = .sample →
    (∀ (i : Instr) (a : Addr),
      (i, a) ∈ [(Instr.diskCommandR sync, 0xFE60#16), (.diskParam0R sync, 0xFE61#16), (.diskParam1R sync, 0xFE62#16),
                (.diskParam2R sync, 0xFE63#16), (.diskParam3R sync, 0xFE64#16)] →
      ∃ t, exec i s = .next t ∧ NothingElse s t ∧ ReadCycle a sync 0x00#8 s t) ∧
    (∃ t, exec (.diskStatusWA sync d) s = .next t ∧ NothingElse s t ∧ WriteCycle 0xFE64#16 sync d s t) ∧
    (∃ t, exec (.diskStatusWB sync d) s = .next t ∧ NothingElse s t ∧ WriteCycle 0xFE66#16 sync d s t)

/-- R211: while the store is unavailable no disk access changes a disk register or the store; the status is NOK; a read of
DISK_STATUS answers 0x01 and every other read 0x00; the accesses R211 lists raise DeviceUnavailable. -/
def Obligations.UnavailableDiskRejectsEverything : Prop :=
  ∀ (i : Instr) (s : State), s.xcvr.addrDir = .sample → s.cfg.storeOpen = false → s.disk.status = .nok →
    isDiskCycle i = true →
    ∃ t, exec i s = .next t ∧ t.disk = s.disk ∧ SameStore s t ∧ t.timer = s.timer ∧ SameMemory s t ∧
      t.raised = (if raisesUnavailable i then some .deviceUnavailable else none) ∧
      (neededDirection i = some .drive → t.xcvr.dataOut = if isStatusRead i then 0x01#8 else 0x00#8)

/-- R231, first part: after a successful SEEK to block n a run of DISK_DATA accesses, reads and writes in any mix, touches the
offsets n*512, n*512 + 1, ... in order, one per access, and each read answers the byte stored at its offset (reference
store). -/
def Obligations.DataAccessesStreamFromTheBlock : Prop :=
  ∀ (s : State) (sync : Bool) (l : List Instr), s.xcvr.addrDir = .sample → s.cfg.storeOpen = true →
    s.cfg.storeKind = .reference → s.cfg.storeWritable = true → s.store.bytes.wf = true →
    (∀ i ∈ l, isDiskData i = true) → blockNumber s.disk.param * 512 + l.length ≤ s.cfg.storeSize →
    ∃ t, runEvents (.diskSeek sync :: l) s = .next t ∧
      t.store.pos = blockNumber s.disk.param * 512 + l.length ∧ t.disk.status = .ok ∧
      (∀ k, k < blockNumber s.disk.param * 512 → t.store.bytes.read k = s.store.bytes.read k) ∧
      (∀ k, t.store.bytes.read (blockNumber s.disk.param * 512 + k) =
        ((l[k]?).bind storedByte).getD (s.store.bytes.read (blockNumber s.disk.param * 512 + k))) ∧
      (∀ l' i, l = l' ++ [i] → storedByte i = none →
        t.xcvr.dataOut = s.store.bytes.read (blockNumber s.disk.param * 512 + l'.length))

/-- R231, second part: nothing but SEEK and DISK_DATA accesses moves the store's position (INIT apart), and nothing but a
DISK_DATA write changes a stored byte. -/
def Obligations.OnlySeekAndDataTouchTheStore : Prop :=
  ∀ (i : Instr) (s t : State), exec i s = .next t → i ≠ .init →
    (t.store.pos ≠ s.store.pos → (∃ sync, i = .diskSeek sync) ∨ isDiskData i = true) ∧
    (t.store.bytes ≠ s.store.bytes → (storedByte i).isSome = true)

/-- R229: the reference store, the spec's own instance (decision D16; its parameters: notes/assumptions/7.md). -/
def Obligations.ReferenceStoreAnswers : Prop :=
  ∀ (s : State) (off : Nat) (b : Byte), s.cfg.storeKind = .reference → s.store.bytes.wf = true →
    ((storeSeek off s).1 = decide (off ≤ s.cfg.storeSize)) ∧
    (off ≤ s.cfg.storeSize → (storeSeek off s).2.store.pos = off) ∧ (storeSeek off s).2.store.bytes = s.store.bytes ∧
    (s.store.pos < s.cfg.storeSize →
      (storeRead s).1 = some (s.store.bytes.read s.store.pos) ∧ (storeRead s).2.store.pos = s.store.pos + 1) ∧
    (s.cfg.storeSize ≤ s.store.pos → (storeRead s).1 = none ∧ (storeRead s).2.store.pos = s.store.pos) ∧
    (storeRead s).2.store.bytes = s.store.bytes ∧
    (s.cfg.storeWritable = true → s.store.pos < s.cfg.storeSize →
      (storeWrite b s).1 = true ∧ (storeWrite b s).2.store.pos = s.store.pos + 1 ∧
      (storeWrite b s).2.store.bytes.read s.store.pos = b ∧
      ∀ k, k ≠ s.store.pos → (storeWrite b s).2.store.bytes.read k = s.store.bytes.read k) ∧
    (s.cfg.storeWritable = false ∨ s.cfg.storeSize ≤ s.store.pos →
      (storeWrite b s).1 = false ∧ (storeWrite b s).2.store = s.store)

/-- R94, R95 (the four bytes of variant B and the exact product are the spec's decisions D2 and D15): the block number is
little-endian by register address and the byte offset is the exact product with 512. -/
def Obligations.BlockNumberIsLittleEndian : Prop :=
  (∀ p0 p1 : Byte, blockNumber [p0, p1] = p0.toNat + p1.toNat * 256 ∧ blockNumber [p0, p1] ≤ 65535) ∧
  (∀ p0 p1 p2 p3 : Byte,
    blockNumber [p0, p1, p2, p3] = p0.toNat + p1.toNat * 256 + p2.toNat * 256 ^ 2 + p3.toNat * 256 ^ 3 ∧
    blockNumber [p0, p1, p2, p3] ≤ 4294967295) ∧
  (∀ (v : Variant) (n : Nat), byteOffset v n = n * 512) ∧
  (∀ p0 p1 : Byte, byteOffset .A (blockNumber [p0, p1]) ≤ 0x1FFFE00) ∧
  (∀ p0 p1 p2 p3 : Byte, byteOffset .B (blockNumber [p0, p1, p2, p3]) < 2 ^ 41)

/-! ## Memory -/

/-- R261: MEM.R. -/
def Obligations.MemoryReadAnswersTheCell : Prop :=
  ∀ (sync : Bool) (a : Addr),
    (∀ c, portDecode c a = .memory → decode c (readWord sync a) = .memR sync a) ∧
    ∀ s : State, s.xcvr.addrDir = .sample → ∃ t, exec (.memR sync a) s = .next t ∧ NothingElse s t ∧
      ReadCycle a sync (s.mem.read (a.toNat % 2 ^ s.cfg.memAddrBits)) s t

/-- R262: MEM.W; every other byte of memory reads as before. -/
def Obligations.MemoryWriteStoresOneByte : Prop :=
  ∀ (sync : Bool) (a : Addr) (v : Byte),
    (∀ c, portDecode c a = .memory → decode c (writeWord sync a v) = .memW sync a v) ∧
    ∀ s : State, s.xcvr.addrDir = .sample → s.mem.wf = true → ∃ t, exec (.memW sync a v) s = .next t ∧
      t.mem.read (a.toNat % 2 ^ s.cfg.memAddrBits) = v ∧
      (∀ k, k ≠ a.toNat % 2 ^ s.cfg.memAddrBits → t.mem.read k = s.mem.read k) ∧
      t.timer = s.timer ∧ t.disk = s.disk ∧ SameStore s t ∧ t.raised = none ∧ WriteCycle a sync v s t

/-- R69 (a): a read of memory answers the byte of the latest write to the same cell, whatever other events fall between. -/
def Obligations.ReadAnswersTheLatestWrite : Prop :=
  ∀ (s : State) (sync sync' : Bool) (a b : Addr) (v : Byte) (l : List Instr),
    s.xcvr.addrDir = .sample → s.mem.wf = true → memIndex s.cfg b = memIndex s.cfg a →
    (∀ i ∈ l, i ≠ .init ∧ i ≠ .reservedKind ∧
      ∀ y x d, i = .memW y x d → memIndex s.cfg x ≠ memIndex s.cfg a) →
    ∃ t, runEvents (.memW sync a v :: (l ++ [.memR sync' b])) s = .next t ∧ t.xcvr.dataOut = v

/-- R63: with a 64 KB image, the cell under an address of a peripheral window is never written by a step other than INIT. -/
def Obligations.WindowsShadowMemory : Prop :=
  ∀ (s t : State) (w : EventWord) (rest : List EventWord) (a : Addr), configWf s.cfg = true → s.cfg.memAddrBits = 16 →
    portDecode s.cfg a ≠ .memory → s.events = w :: rest → decode s.cfg w ≠ .init → step s = .next t →
    t.mem.read a.toNat = s.mem.read a.toNat
end

