-- ==== Sys2Proof/Laws/Memory.lean ====
section
/-! SUPPORT. Byte images: what a write does to every byte, and that it keeps the canonical form. -/

namespace Sys2Proof

/-- Every entry of a canonical image's tail lies above its head. -/
theorem Memory.wf_cons {j : Nat} {b : Byte} {m : Memory} :
    Memory.wf ((j, b) :: m) = true ↔ b ≠ Memory.unlisted j ∧ (∀ c ∈ m, j < c.1) ∧ Memory.wf m = true := by
  simp [Memory.wf, and_assoc]

/-- An index below every entry reads as unlisted. -/
theorem Memory.read_of_lt {m : Memory} {k : Nat} (h : ∀ c ∈ m, k < c.1) : Memory.read m k = Memory.unlisted k := by
  induction m with
  | nil => rfl
  | cons c m ih =>
    have hc := h c (by simp)
    rw [Memory.read, if_neg (by omega)]
    exact ih fun d hd => h d (by simp [hd])

/-- A written index reads back as the byte written. -/
theorem Memory.read_write_same {m : Memory} (h : Memory.wf m = true) (k : Nat) (v : Byte) :
    Memory.read (Memory.write m k v) k = v := by
  induction m with
  | nil =>
    unfold Memory.write
    split
    · next hv => simp [Memory.read, hv]
    · simp [Memory.read]
  | cons c m ih =>
    obtain ⟨j, b⟩ := c
    obtain ⟨-, hlt, hm⟩ := Memory.wf_cons.1 h
    unfold Memory.write
    split
    · next hkj =>
      split
      · next hv =>
        rw [hv]
        refine Memory.read_of_lt fun c hc => ?_
        rcases List.mem_cons.1 hc with rfl | hc
        · exact hkj
        · exact lt_trans hkj (hlt c hc)
      · simp [Memory.read]
    · split
      · next hk =>
        split
        · next hv =>
          rw [hv]
          exact Memory.read_of_lt fun c hc => hk ▸ hlt c hc
        · simp [Memory.read]
      · next hk => rw [Memory.read, if_neg hk, ih hm]

/-- Every other index reads as before. -/
theorem Memory.read_write_other (m : Memory) {k k' : Nat} (hne : k' ≠ k) (v : Byte) :
    Memory.read (Memory.write m k v) k' = Memory.read m k' := by
  induction m with
  | nil =>
    unfold Memory.write
    split
    · rfl
    · simp [Memory.read, hne]
  | cons c m ih =>
    obtain ⟨j, b⟩ := c
    unfold Memory.write
    split
    · split
      · rfl
      · simp [Memory.read, hne]
    · split
      · next hk =>
        split
        · rw [Memory.read, if_neg (hk ▸ hne)]
        · simp only [Memory.read]
          rw [if_neg hne, if_neg (hk ▸ hne)]
      · rw [Memory.read, Memory.read, ih]

/-- An entry after a write is the written one or was there before. -/
theorem Memory.mem_write {m : Memory} {k : Nat} {v : Byte} {c : Host.Cell} (h : c ∈ Memory.write m k v) :
    c = (k, v) ∨ c ∈ m := by
  induction m with
  | nil =>
    unfold Memory.write at h
    split at h <;> simp_all
  | cons d m ih =>
    obtain ⟨j, b⟩ := d
    unfold Memory.write at h
    split at h
    · split at h
      · exact .inr h
      · exact (List.mem_cons.1 h).imp_right id
    · split at h
      · split at h
        · exact .inr (List.mem_cons_of_mem _ h)
        · exact (List.mem_cons.1 h).imp_right (List.mem_cons_of_mem _)
      · rcases List.mem_cons.1 h with rfl | h
        · exact .inr (by simp)
        · exact (ih h).imp_right (List.mem_cons_of_mem _)

/-- A write keeps the canonical form. -/
theorem Memory.write_wf {m : Memory} (h : Memory.wf m = true) (k : Nat) (v : Byte) :
    Memory.wf (Memory.write m k v) = true := by
  induction m with
  | nil =>
    unfold Memory.write
    split
    · rfl
    · next hv => exact Memory.wf_cons.2 ⟨hv, by simp, rfl⟩
  | cons c m ih =>
    obtain ⟨j, b⟩ := c
    obtain ⟨hb, hlt, hm⟩ := Memory.wf_cons.1 h
    unfold Memory.write
    split
    · next hkj =>
      split
      · exact h
      · next hv =>
        refine Memory.wf_cons.2 ⟨hv, fun c hc => ?_, h⟩
        rcases List.mem_cons.1 hc with rfl | hc
        · exact hkj
        · exact lt_trans hkj (hlt c hc)
    · next hkj =>
      split
      · next hk =>
        split
        · exact hm
        · next hv => exact Memory.wf_cons.2 ⟨hv, fun c hc => hk ▸ hlt c hc, hm⟩
      · next hk =>
        refine Memory.wf_cons.2 ⟨hb, fun c hc => ?_, ih hm⟩
        rcases Memory.mem_write hc with rfl | hc
        · have : j < k := by omega
          exact this
        · exact hlt c hc

/-- A write below a bound keeps every entry below it. -/
theorem Memory.write_below {m : Memory} {n k : Nat} (h : Memory.below m n = true) (hk : k < n) (v : Byte) :
    Memory.below (Memory.write m k v) n = true := by
  simp only [Memory.below, List.all_eq_true, decide_eq_true_eq] at h ⊢
  intro c hc
  rcases Memory.mem_write hc with rfl | hc
  · exact hk
  · exact h c hc

end Sys2Proof
end

