-- ==== Sys2Proof/Laws/State.lean ====
section
/-! SUPPORT. One lemma per field per update of `State`, true by rfl, so that no proof unfolds a record update. -/

namespace Sys2Proof.Machine

/-! ## openEvent (R25) -/

@[simp] theorem openEvent_cfg (s : State) : (openEvent s).cfg = s.cfg := rfl
@[simp] theorem openEvent_xcvr (s : State) : (openEvent s).xcvr = s.xcvr := rfl
@[simp] theorem openEvent_timer (s : State) : (openEvent s).timer = s.timer := rfl
@[simp] theorem openEvent_disk (s : State) : (openEvent s).disk = s.disk := rfl
@[simp] theorem openEvent_store (s : State) : (openEvent s).store = s.store := rfl
@[simp] theorem openEvent_mem (s : State) : (openEvent s).mem = s.mem := rfl
@[simp] theorem openEvent_events (s : State) : (openEvent s).events = s.events := rfl
@[simp] theorem openEvent_initOpen (s : State) : (openEvent s).initOpen = false := rfl
@[simp] theorem openEvent_draws (s : State) : (openEvent s).draws = s.draws := rfl
@[simp] theorem openEvent_bus (s : State) : (openEvent s).bus = none := rfl
@[simp] theorem openEvent_raised (s : State) : (openEvent s).raised = none := rfl
@[simp] theorem openEvent_switches (s : State) : (openEvent s).switches = s.switches := rfl

/-! ## setAddressDirection (R120) -/

@[simp] theorem setAddressDirection_cfg (d : Direction) (s : State) : (setAddressDirection d s).cfg = s.cfg := rfl
@[simp] theorem setAddressDirection_xcvr (d : Direction) (s : State) : (setAddressDirection d s).xcvr = { s.xcvr with addrDir := d } := rfl
@[simp] theorem setAddressDirection_timer (d : Direction) (s : State) : (setAddressDirection d s).timer = s.timer := rfl
@[simp] theorem setAddressDirection_disk (d : Direction) (s : State) : (setAddressDirection d s).disk = s.disk := rfl
@[simp] theorem setAddressDirection_store (d : Direction) (s : State) : (setAddressDirection d s).store = s.store := rfl
@[simp] theorem setAddressDirection_mem (d : Direction) (s : State) : (setAddressDirection d s).mem = s.mem := rfl
@[simp] theorem setAddressDirection_events (d : Direction) (s : State) : (setAddressDirection d s).events = s.events := rfl
@[simp] theorem setAddressDirection_initOpen (d : Direction) (s : State) : (setAddressDirection d s).initOpen = s.initOpen := rfl
@[simp] theorem setAddressDirection_draws (d : Direction) (s : State) : (setAddressDirection d s).draws = s.draws := rfl
@[simp] theorem setAddressDirection_bus (d : Direction) (s : State) : (setAddressDirection d s).bus = s.bus := rfl
@[simp] theorem setAddressDirection_raised (d : Direction) (s : State) : (setAddressDirection d s).raised = s.raised := rfl
@[simp] theorem setAddressDirection_switches (d : Direction) (s : State) : (setAddressDirection d s).switches = s.switches := rfl

/-! ## setDataDirection (R121) -/

@[simp] theorem setDataDirection_cfg (d : Direction) (s : State) : (setDataDirection d s).cfg = s.cfg := rfl
@[simp] theorem setDataDirection_xcvr (d : Direction) (s : State) : (setDataDirection d s).xcvr = { s.xcvr with dataDir := d } := rfl
@[simp] theorem setDataDirection_timer (d : Direction) (s : State) : (setDataDirection d s).timer = s.timer := rfl
@[simp] theorem setDataDirection_disk (d : Direction) (s : State) : (setDataDirection d s).disk = s.disk := rfl
@[simp] theorem setDataDirection_store (d : Direction) (s : State) : (setDataDirection d s).store = s.store := rfl
@[simp] theorem setDataDirection_mem (d : Direction) (s : State) : (setDataDirection d s).mem = s.mem := rfl
@[simp] theorem setDataDirection_events (d : Direction) (s : State) : (setDataDirection d s).events = s.events := rfl
@[simp] theorem setDataDirection_initOpen (d : Direction) (s : State) : (setDataDirection d s).initOpen = s.initOpen := rfl
@[simp] theorem setDataDirection_draws (d : Direction) (s : State) : (setDataDirection d s).draws = s.draws := rfl
@[simp] theorem setDataDirection_bus (d : Direction) (s : State) : (setDataDirection d s).bus = s.bus := rfl
@[simp] theorem setDataDirection_raised (d : Direction) (s : State) : (setDataDirection d s).raised = s.raised := rfl
@[simp] theorem setDataDirection_switches (d : Direction) (s : State) : (setDataDirection d s).switches = s.switches + 1 := rfl

/-! ## recordCycle (R25) -/

@[simp] theorem recordCycle_cfg (r : BusState) (s : State) : (recordCycle r s).cfg = s.cfg := rfl
@[simp] theorem recordCycle_xcvr (r : BusState) (s : State) : (recordCycle r s).xcvr = s.xcvr := rfl
@[simp] theorem recordCycle_timer (r : BusState) (s : State) : (recordCycle r s).timer = s.timer := rfl
@[simp] theorem recordCycle_disk (r : BusState) (s : State) : (recordCycle r s).disk = s.disk := rfl
@[simp] theorem recordCycle_store (r : BusState) (s : State) : (recordCycle r s).store = s.store := rfl
@[simp] theorem recordCycle_mem (r : BusState) (s : State) : (recordCycle r s).mem = s.mem := rfl
@[simp] theorem recordCycle_events (r : BusState) (s : State) : (recordCycle r s).events = s.events := rfl
@[simp] theorem recordCycle_initOpen (r : BusState) (s : State) : (recordCycle r s).initOpen = s.initOpen := rfl
@[simp] theorem recordCycle_draws (r : BusState) (s : State) : (recordCycle r s).draws = s.draws := rfl
@[simp] theorem recordCycle_bus (r : BusState) (s : State) : (recordCycle r s).bus = some r := rfl
@[simp] theorem recordCycle_raised (r : BusState) (s : State) : (recordCycle r s).raised = s.raised := rfl
@[simp] theorem recordCycle_switches (r : BusState) (s : State) : (recordCycle r s).switches = s.switches := rfl

/-! ## putTimer (R26) -/

@[simp] theorem putTimer_cfg (t : Timer) (s : State) : (putTimer t s).cfg = s.cfg := rfl
@[simp] theorem putTimer_xcvr (t : Timer) (s : State) : (putTimer t s).xcvr = s.xcvr := rfl
@[simp] theorem putTimer_timer (t : Timer) (s : State) : (putTimer t s).timer = t := rfl
@[simp] theorem putTimer_disk (t : Timer) (s : State) : (putTimer t s).disk = s.disk := rfl
@[simp] theorem putTimer_store (t : Timer) (s : State) : (putTimer t s).store = s.store := rfl
@[simp] theorem putTimer_mem (t : Timer) (s : State) : (putTimer t s).mem = s.mem := rfl
@[simp] theorem putTimer_events (t : Timer) (s : State) : (putTimer t s).events = s.events := rfl
@[simp] theorem putTimer_initOpen (t : Timer) (s : State) : (putTimer t s).initOpen = s.initOpen := rfl
@[simp] theorem putTimer_draws (t : Timer) (s : State) : (putTimer t s).draws = s.draws := rfl
@[simp] theorem putTimer_bus (t : Timer) (s : State) : (putTimer t s).bus = s.bus := rfl
@[simp] theorem putTimer_raised (t : Timer) (s : State) : (putTimer t s).raised = s.raised := rfl
@[simp] theorem putTimer_switches (t : Timer) (s : State) : (putTimer t s).switches = s.switches := rfl

/-! ## latchData (R23) -/

@[simp] theorem latchData_cfg (v : Byte) (s : State) : (latchData v s).cfg = s.cfg := rfl
@[simp] theorem latchData_xcvr (v : Byte) (s : State) : (latchData v s).xcvr = { s.xcvr with dataOut := v } := rfl
@[simp] theorem latchData_timer (v : Byte) (s : State) : (latchData v s).timer = s.timer := rfl
@[simp] theorem latchData_disk (v : Byte) (s : State) : (latchData v s).disk = s.disk := rfl
@[simp] theorem latchData_store (v : Byte) (s : State) : (latchData v s).store = s.store := rfl
@[simp] theorem latchData_mem (v : Byte) (s : State) : (latchData v s).mem = s.mem := rfl
@[simp] theorem latchData_events (v : Byte) (s : State) : (latchData v s).events = s.events := rfl
@[simp] theorem latchData_initOpen (v : Byte) (s : State) : (latchData v s).initOpen = s.initOpen := rfl
@[simp] theorem latchData_draws (v : Byte) (s : State) : (latchData v s).draws = s.draws := rfl
@[simp] theorem latchData_bus (v : Byte) (s : State) : (latchData v s).bus = s.bus := rfl
@[simp] theorem latchData_raised (v : Byte) (s : State) : (latchData v s).raised = s.raised := rfl
@[simp] theorem latchData_switches (v : Byte) (s : State) : (latchData v s).switches = s.switches := rfl

/-! ## putStoreByte (R228) -/

@[simp] theorem putStoreByte_cfg (b : Byte) (s : State) : (putStoreByte b s).cfg = s.cfg := rfl
@[simp] theorem putStoreByte_xcvr (b : Byte) (s : State) : (putStoreByte b s).xcvr = s.xcvr := rfl
@[simp] theorem putStoreByte_timer (b : Byte) (s : State) : (putStoreByte b s).timer = s.timer := rfl
@[simp] theorem putStoreByte_disk (b : Byte) (s : State) : (putStoreByte b s).disk = s.disk := rfl
@[simp] theorem putStoreByte_store (b : Byte) (s : State) : (putStoreByte b s).store = { s.store with bytes := s.store.bytes.write s.store.pos b } := rfl
@[simp] theorem putStoreByte_mem (b : Byte) (s : State) : (putStoreByte b s).mem = s.mem := rfl
@[simp] theorem putStoreByte_events (b : Byte) (s : State) : (putStoreByte b s).events = s.events := rfl
@[simp] theorem putStoreByte_initOpen (b : Byte) (s : State) : (putStoreByte b s).initOpen = s.initOpen := rfl
@[simp] theorem putStoreByte_draws (b : Byte) (s : State) : (putStoreByte b s).draws = s.draws := rfl
@[simp] theorem putStoreByte_bus (b : Byte) (s : State) : (putStoreByte b s).bus = s.bus := rfl
@[simp] theorem putStoreByte_raised (b : Byte) (s : State) : (putStoreByte b s).raised = s.raised := rfl
@[simp] theorem putStoreByte_switches (b : Byte) (s : State) : (putStoreByte b s).switches = s.switches := rfl

/-! ## memWrite (R62) -/

@[simp] theorem memWrite_cfg (a : Addr) (v : Byte) (s : State) : (memWrite a v s).cfg = s.cfg := rfl
@[simp] theorem memWrite_xcvr (a : Addr) (v : Byte) (s : State) : (memWrite a v s).xcvr = s.xcvr := rfl
@[simp] theorem memWrite_timer (a : Addr) (v : Byte) (s : State) : (memWrite a v s).timer = s.timer := rfl
@[simp] theorem memWrite_disk (a : Addr) (v : Byte) (s : State) : (memWrite a v s).disk = s.disk := rfl
@[simp] theorem memWrite_store (a : Addr) (v : Byte) (s : State) : (memWrite a v s).store = s.store := rfl
@[simp] theorem memWrite_mem (a : Addr) (v : Byte) (s : State) : (memWrite a v s).mem = s.mem.write (memIndex s.cfg a) v := rfl
@[simp] theorem memWrite_events (a : Addr) (v : Byte) (s : State) : (memWrite a v s).events = s.events := rfl
@[simp] theorem memWrite_initOpen (a : Addr) (v : Byte) (s : State) : (memWrite a v s).initOpen = s.initOpen := rfl
@[simp] theorem memWrite_draws (a : Addr) (v : Byte) (s : State) : (memWrite a v s).draws = s.draws := rfl
@[simp] theorem memWrite_bus (a : Addr) (v : Byte) (s : State) : (memWrite a v s).bus = s.bus := rfl
@[simp] theorem memWrite_raised (a : Addr) (v : Byte) (s : State) : (memWrite a v s).raised = s.raised := rfl
@[simp] theorem memWrite_switches (a : Addr) (v : Byte) (s : State) : (memWrite a v s).switches = s.switches := rfl

/-! ## raiseError (R290) -/

@[simp] theorem raiseError_cfg (e : DiskError) (s : State) : (raiseError e s).cfg = s.cfg := rfl
@[simp] theorem raiseError_xcvr (e : DiskError) (s : State) : (raiseError e s).xcvr = s.xcvr := rfl
@[simp] theorem raiseError_timer (e : DiskError) (s : State) : (raiseError e s).timer = s.timer := rfl
@[simp] theorem raiseError_disk (e : DiskError) (s : State) : (raiseError e s).disk = { s.disk with status := .nok } := rfl
@[simp] theorem raiseError_store (e : DiskError) (s : State) : (raiseError e s).store = s.store := rfl
@[simp] theorem raiseError_mem (e : DiskError) (s : State) : (raiseError e s).mem = s.mem := rfl
@[simp] theorem raiseError_events (e : DiskError) (s : State) : (raiseError e s).events = s.events := rfl
@[simp] theorem raiseError_initOpen (e : DiskError) (s : State) : (raiseError e s).initOpen = s.initOpen := rfl
@[simp] theorem raiseError_draws (e : DiskError) (s : State) : (raiseError e s).draws = s.draws := rfl
@[simp] theorem raiseError_bus (e : DiskError) (s : State) : (raiseError e s).bus = s.bus := rfl
@[simp] theorem raiseError_raised (e : DiskError) (s : State) : (raiseError e s).raised = some e := rfl
@[simp] theorem raiseError_switches (e : DiskError) (s : State) : (raiseError e s).switches = s.switches := rfl

/-! ## reportOk (R31) -/

@[simp] theorem reportOk_cfg (s : State) : (reportOk s).cfg = s.cfg := rfl
@[simp] theorem reportOk_xcvr (s : State) : (reportOk s).xcvr = s.xcvr := rfl
@[simp] theorem reportOk_timer (s : State) : (reportOk s).timer = s.timer := rfl
@[simp] theorem reportOk_disk (s : State) : (reportOk s).disk = { s.disk with status := .ok } := rfl
@[simp] theorem reportOk_store (s : State) : (reportOk s).store = s.store := rfl
@[simp] theorem reportOk_mem (s : State) : (reportOk s).mem = s.mem := rfl
@[simp] theorem reportOk_events (s : State) : (reportOk s).events = s.events := rfl
@[simp] theorem reportOk_initOpen (s : State) : (reportOk s).initOpen = s.initOpen := rfl
@[simp] theorem reportOk_draws (s : State) : (reportOk s).draws = s.draws := rfl
@[simp] theorem reportOk_bus (s : State) : (reportOk s).bus = s.bus := rfl
@[simp] theorem reportOk_raised (s : State) : (reportOk s).raised = s.raised := rfl
@[simp] theorem reportOk_switches (s : State) : (reportOk s).switches = s.switches := rfl

/-! ## moveStore (R35) -/

@[simp] theorem moveStore_cfg (p : Nat) (s : State) : (moveStore p s).cfg = s.cfg := rfl
@[simp] theorem moveStore_xcvr (p : Nat) (s : State) : (moveStore p s).xcvr = s.xcvr := rfl
@[simp] theorem moveStore_timer (p : Nat) (s : State) : (moveStore p s).timer = s.timer := rfl
@[simp] theorem moveStore_disk (p : Nat) (s : State) : (moveStore p s).disk = s.disk := rfl
@[simp] theorem moveStore_store (p : Nat) (s : State) : (moveStore p s).store = { s.store with pos := p } := rfl
@[simp] theorem moveStore_mem (p : Nat) (s : State) : (moveStore p s).mem = s.mem := rfl
@[simp] theorem moveStore_events (p : Nat) (s : State) : (moveStore p s).events = s.events := rfl
@[simp] theorem moveStore_initOpen (p : Nat) (s : State) : (moveStore p s).initOpen = s.initOpen := rfl
@[simp] theorem moveStore_draws (p : Nat) (s : State) : (moveStore p s).draws = s.draws + 1 := rfl
@[simp] theorem moveStore_bus (p : Nat) (s : State) : (moveStore p s).bus = s.bus := rfl
@[simp] theorem moveStore_raised (p : Nat) (s : State) : (moveStore p s).raised = s.raised := rfl
@[simp] theorem moveStore_switches (p : Nat) (s : State) : (moveStore p s).switches = s.switches := rfl

/-! ## latchCommand (R32) -/

@[simp] theorem latchCommand_cfg (v : Byte) (s : State) : (latchCommand v s).cfg = s.cfg := rfl
@[simp] theorem latchCommand_xcvr (v : Byte) (s : State) : (latchCommand v s).xcvr = s.xcvr := rfl
@[simp] theorem latchCommand_timer (v : Byte) (s : State) : (latchCommand v s).timer = s.timer := rfl
@[simp] theorem latchCommand_disk (v : Byte) (s : State) : (latchCommand v s).disk = { s.disk with cmd := v } := rfl
@[simp] theorem latchCommand_store (v : Byte) (s : State) : (latchCommand v s).store = s.store := rfl
@[simp] theorem latchCommand_mem (v : Byte) (s : State) : (latchCommand v s).mem = s.mem := rfl
@[simp] theorem latchCommand_events (v : Byte) (s : State) : (latchCommand v s).events = s.events := rfl
@[simp] theorem latchCommand_initOpen (v : Byte) (s : State) : (latchCommand v s).initOpen = s.initOpen := rfl
@[simp] theorem latchCommand_draws (v : Byte) (s : State) : (latchCommand v s).draws = s.draws := rfl
@[simp] theorem latchCommand_bus (v : Byte) (s : State) : (latchCommand v s).bus = s.bus := rfl
@[simp] theorem latchCommand_raised (v : Byte) (s : State) : (latchCommand v s).raised = s.raised := rfl
@[simp] theorem latchCommand_switches (v : Byte) (s : State) : (latchCommand v s).switches = s.switches := rfl

/-! ## writeTarget (R171) -/

@[simp] theorem writeTarget_cfg (v : Byte) (s : State) : (writeTarget v s).cfg = s.cfg := rfl
@[simp] theorem writeTarget_xcvr (v : Byte) (s : State) : (writeTarget v s).xcvr = s.xcvr := rfl
@[simp] theorem writeTarget_timer (v : Byte) (s : State) : (writeTarget v s).timer = { ticks := 0#16, target := v, mode := .running, irq := false } := rfl
@[simp] theorem writeTarget_disk (v : Byte) (s : State) : (writeTarget v s).disk = s.disk := rfl
@[simp] theorem writeTarget_store (v : Byte) (s : State) : (writeTarget v s).store = s.store := rfl
@[simp] theorem writeTarget_mem (v : Byte) (s : State) : (writeTarget v s).mem = s.mem := rfl
@[simp] theorem writeTarget_events (v : Byte) (s : State) : (writeTarget v s).events = s.events := rfl
@[simp] theorem writeTarget_initOpen (v : Byte) (s : State) : (writeTarget v s).initOpen = s.initOpen := rfl
@[simp] theorem writeTarget_draws (v : Byte) (s : State) : (writeTarget v s).draws = s.draws := rfl
@[simp] theorem writeTarget_bus (v : Byte) (s : State) : (writeTarget v s).bus = s.bus := rfl
@[simp] theorem writeTarget_raised (v : Byte) (s : State) : (writeTarget v s).raised = s.raised := rfl
@[simp] theorem writeTarget_switches (v : Byte) (s : State) : (writeTarget v s).switches = s.switches := rfl

/-! ## resetPeriod (R173) -/

@[simp] theorem resetPeriod_cfg (s : State) : (resetPeriod s).cfg = s.cfg := rfl
@[simp] theorem resetPeriod_xcvr (s : State) : (resetPeriod s).xcvr = s.xcvr := rfl
@[simp] theorem resetPeriod_timer (s : State) : (resetPeriod s).timer = { ticks := 0#16, target := s.timer.target, mode := .running, irq := false } := rfl
@[simp] theorem resetPeriod_disk (s : State) : (resetPeriod s).disk = s.disk := rfl
@[simp] theorem resetPeriod_store (s : State) : (resetPeriod s).store = s.store := rfl
@[simp] theorem resetPeriod_mem (s : State) : (resetPeriod s).mem = s.mem := rfl
@[simp] theorem resetPeriod_events (s : State) : (resetPeriod s).events = s.events := rfl
@[simp] theorem resetPeriod_initOpen (s : State) : (resetPeriod s).initOpen = s.initOpen := rfl
@[simp] theorem resetPeriod_draws (s : State) : (resetPeriod s).draws = s.draws := rfl
@[simp] theorem resetPeriod_bus (s : State) : (resetPeriod s).bus = s.bus := rfl
@[simp] theorem resetPeriod_raised (s : State) : (resetPeriod s).raised = s.raised := rfl
@[simp] theorem resetPeriod_switches (s : State) : (resetPeriod s).switches = s.switches := rfl

/-! ## triggerNow (R174) -/

@[simp] theorem triggerNow_cfg (s : State) : (triggerNow s).cfg = s.cfg := rfl
@[simp] theorem triggerNow_xcvr (s : State) : (triggerNow s).xcvr = s.xcvr := rfl
@[simp] theorem triggerNow_timer (s : State) : (triggerNow s).timer = { ticks := 0#16, target := s.timer.target, mode := .triggered, irq := true } := rfl
@[simp] theorem triggerNow_disk (s : State) : (triggerNow s).disk = s.disk := rfl
@[simp] theorem triggerNow_store (s : State) : (triggerNow s).store = s.store := rfl
@[simp] theorem triggerNow_mem (s : State) : (triggerNow s).mem = s.mem := rfl
@[simp] theorem triggerNow_events (s : State) : (triggerNow s).events = s.events := rfl
@[simp] theorem triggerNow_initOpen (s : State) : (triggerNow s).initOpen = s.initOpen := rfl
@[simp] theorem triggerNow_draws (s : State) : (triggerNow s).draws = s.draws := rfl
@[simp] theorem triggerNow_bus (s : State) : (triggerNow s).bus = s.bus := rfl
@[simp] theorem triggerNow_raised (s : State) : (triggerNow s).raised = s.raised := rfl
@[simp] theorem triggerNow_switches (s : State) : (triggerNow s).switches = s.switches := rfl

/-! ## pauseTimer (R175) -/

@[simp] theorem pauseTimer_cfg (s : State) : (pauseTimer s).cfg = s.cfg := rfl
@[simp] theorem pauseTimer_xcvr (s : State) : (pauseTimer s).xcvr = s.xcvr := rfl
@[simp] theorem pauseTimer_timer (s : State) : (pauseTimer s).timer = { s.timer with mode := .paused } := rfl
@[simp] theorem pauseTimer_disk (s : State) : (pauseTimer s).disk = s.disk := rfl
@[simp] theorem pauseTimer_store (s : State) : (pauseTimer s).store = s.store := rfl
@[simp] theorem pauseTimer_mem (s : State) : (pauseTimer s).mem = s.mem := rfl
@[simp] theorem pauseTimer_events (s : State) : (pauseTimer s).events = s.events := rfl
@[simp] theorem pauseTimer_initOpen (s : State) : (pauseTimer s).initOpen = s.initOpen := rfl
@[simp] theorem pauseTimer_draws (s : State) : (pauseTimer s).draws = s.draws := rfl
@[simp] theorem pauseTimer_bus (s : State) : (pauseTimer s).bus = s.bus := rfl
@[simp] theorem pauseTimer_raised (s : State) : (pauseTimer s).raised = s.raised := rfl
@[simp] theorem pauseTimer_switches (s : State) : (pauseTimer s).switches = s.switches := rfl

/-! ## resumeTimer (R176) -/

@[simp] theorem resumeTimer_cfg (s : State) : (resumeTimer s).cfg = s.cfg := rfl
@[simp] theorem resumeTimer_xcvr (s : State) : (resumeTimer s).xcvr = s.xcvr := rfl
@[simp] theorem resumeTimer_timer (s : State) : (resumeTimer s).timer = { s.timer with mode := .running, irq := false } := rfl
@[simp] theorem resumeTimer_disk (s : State) : (resumeTimer s).disk = s.disk := rfl
@[simp] theorem resumeTimer_store (s : State) : (resumeTimer s).store = s.store := rfl
@[simp] theorem resumeTimer_mem (s : State) : (resumeTimer s).mem = s.mem := rfl
@[simp] theorem resumeTimer_events (s : State) : (resumeTimer s).events = s.events := rfl
@[simp] theorem resumeTimer_initOpen (s : State) : (resumeTimer s).initOpen = s.initOpen := rfl
@[simp] theorem resumeTimer_draws (s : State) : (resumeTimer s).draws = s.draws := rfl
@[simp] theorem resumeTimer_bus (s : State) : (resumeTimer s).bus = s.bus := rfl
@[simp] theorem resumeTimer_raised (s : State) : (resumeTimer s).raised = s.raised := rfl
@[simp] theorem resumeTimer_switches (s : State) : (resumeTimer s).switches = s.switches := rfl

/-! ## needDataDirection (R264) -/

@[simp] theorem needDataDirection_xcvr (d : Direction) (s : State) :
    (needDataDirection d s).xcvr = { s.xcvr with dataDir := d } := by
  unfold needDataDirection
  split
  · next h => simp [← h]
  · rfl

@[simp] theorem needDataDirection_switches (d : Direction) (s : State) :
    (needDataDirection d s).switches = s.switches + switchCost s.xcvr.dataDir d := by
  unfold needDataDirection switchCost
  split <;> rfl

@[simp] theorem needDataDirection_cfg (d : Direction) (s : State) : (needDataDirection d s).cfg = s.cfg := by
  unfold needDataDirection
  split <;> rfl

@[simp] theorem needDataDirection_timer (d : Direction) (s : State) : (needDataDirection d s).timer = s.timer := by
  unfold needDataDirection
  split <;> rfl

@[simp] theorem needDataDirection_disk (d : Direction) (s : State) : (needDataDirection d s).disk = s.disk := by
  unfold needDataDirection
  split <;> rfl

@[simp] theorem needDataDirection_store (d : Direction) (s : State) : (needDataDirection d s).store = s.store := by
  unfold needDataDirection
  split <;> rfl

@[simp] theorem needDataDirection_mem (d : Direction) (s : State) : (needDataDirection d s).mem = s.mem := by
  unfold needDataDirection
  split <;> rfl

@[simp] theorem needDataDirection_events (d : Direction) (s : State) : (needDataDirection d s).events = s.events := by
  unfold needDataDirection
  split <;> rfl

@[simp] theorem needDataDirection_initOpen (d : Direction) (s : State) : (needDataDirection d s).initOpen = s.initOpen := by
  unfold needDataDirection
  split <;> rfl

@[simp] theorem needDataDirection_draws (d : Direction) (s : State) : (needDataDirection d s).draws = s.draws := by
  unfold needDataDirection
  split <;> rfl

@[simp] theorem needDataDirection_bus (d : Direction) (s : State) : (needDataDirection d s).bus = s.bus := by
  unfold needDataDirection
  split <;> rfl

@[simp] theorem needDataDirection_raised (d : Direction) (s : State) : (needDataDirection d s).raised = s.raised := by
  unfold needDataDirection
  split <;> rfl

end Sys2Proof.Machine
end

