-- ==== Sys2Proof/Laws/Ops.lean ====
section
/-! SUPPORT. What each shared operation can do, said once: bus cycles, the availability gate, the backing store. -/

namespace Sys2Proof.Machine

/-! ## Bus cycles (R260) -/

/-- A write cycle with the address bus in SAMPLE: the target operation runs on the opened state with the data bus in SAMPLE,
and the record is kept. -/
theorem busWrite_eq {s : State} (h : s.xcvr.addrDir = .sample) (a : Addr) (sync : Bool) (d : Byte)
    (target : Byte → State → State) :
    busWrite a sync d target s =
      .next (recordCycle ⟨a, d, .sample, sync⟩ (target d (needDataDirection .sample (openEvent s)))) := by
  simp [busWrite, sampleAddress, sampleData, h]

/-- A read cycle with the address bus in SAMPLE: the target operation runs on the opened state, its byte goes on the data bus,
and the record is kept. -/
theorem busRead_eq {s : State} (h : s.xcvr.addrDir = .sample) (a : Addr) (sync : Bool) (target : State → Byte × State) :
    busRead a sync target s =
      .next (recordCycle ⟨a, (target (openEvent s)).1, .drive, sync⟩
        (latchData (target (openEvent s)).1 (needDataDirection .drive (target (openEvent s)).2))) := by
  simp [busRead, sampleAddress, writeData, h]

/-- A write cycle with the address bus in DRIVE is a misuse. -/
theorem busWrite_misuse {s : State} (h : s.xcvr.addrDir = .drive) (a : Addr) (sync : Bool) (d : Byte)
    (target : Byte → State → State) : busWrite a sync d target s = .fault .transceiverMisuse := by
  simp [busWrite, sampleAddress, h]

/-- A read cycle with the address bus in DRIVE is a misuse. -/
theorem busRead_misuse {s : State} (h : s.xcvr.addrDir = .drive) (a : Addr) (sync : Bool)
    (target : State → Byte × State) : busRead a sync target s = .fault .transceiverMisuse := by
  simp [busRead, sampleAddress, h]

/-- If a write cycle has a next state, it is the one of `busWrite_eq`. -/
theorem busWrite_next {s t : State} {a : Addr} {sync : Bool} {d : Byte} {target : Byte → State → State}
    (h : busWrite a sync d target s = .next t) :
    s.xcvr.addrDir = .sample ∧
      t = recordCycle ⟨a, d, .sample, sync⟩ (target d (needDataDirection .sample (openEvent s))) := by
  cases hd : s.xcvr.addrDir with
  | sample => rw [busWrite_eq hd] at h; exact ⟨rfl, (Host.Outcome.next.inj h).symm⟩
  | drive => rw [busWrite_misuse hd] at h; cases h

/-- If a read cycle has a next state, it is the one of `busRead_eq`. -/
theorem busRead_next {s t : State} {a : Addr} {sync : Bool} {target : State → Byte × State}
    (h : busRead a sync target s = .next t) :
    s.xcvr.addrDir = .sample ∧
      t = recordCycle ⟨a, (target (openEvent s)).1, .drive, sync⟩
        (latchData (target (openEvent s)).1 (needDataDirection .drive (target (openEvent s)).2)) := by
  cases hd : s.xcvr.addrDir with
  | sample => rw [busRead_eq hd] at h; exact ⟨rfl, (Host.Outcome.next.inj h).symm⟩
  | drive => rw [busRead_misuse hd] at h; cases h

/-! ## The availability gate (R211) -/

theorem whenAvailable_open {s : State} (h : s.cfg.storeOpen = true) (op : State → State) : whenAvailable op s = op s := by
  simp [whenAvailable, h]

theorem whenAvailable_closed {s : State} (h : s.cfg.storeOpen = false) (op : State → State) :
    whenAvailable op s = raiseError .deviceUnavailable s := by
  simp [whenAvailable, h]

/-! ## The backing store (R226 to R228) -/

/-- What `StoreSeek` can do. -/
theorem storeSeek_cases (off : Nat) (s : State) :
    (seekSucceeds off s = true ∧ storeSeek off s = (true, moveStore off s)) ∨
    (seekSucceeds off s = false ∧ storeSeek off s = (false, moveStore (Config.freePos s.draws) s)) := by
  unfold storeSeek
  cases h : seekSucceeds off s <;> simp

/-- What `StoreRead` can do. -/
theorem storeRead_cases (s : State) :
    (readSucceeds s = true ∧
      storeRead s = (some (s.store.bytes.read s.store.pos), moveStore (s.store.pos + 1) s)) ∨
    (readSucceeds s = false ∧ storeRead s = (none, moveStore (posAfterRefusal s) s)) := by
  unfold storeRead
  cases h : readSucceeds s <;> simp

/-- What `StoreWrite` can do. -/
theorem storeWrite_cases (b : Byte) (s : State) :
    (writeSucceeds s = true ∧ storeWrite b s = (true, moveStore (s.store.pos + 1) (putStoreByte b s))) ∨
    (writeSucceeds s = false ∧ storeWrite b s = (false, moveStore (posAfterRefusal s) s)) := by
  unfold storeWrite
  cases h : writeSucceeds s <;> simp

/-- The reference store leaves the position after a refused transfer (R229). -/
theorem posAfterRefusal_reference {s : State} (h : s.cfg.storeKind = .reference) : posAfterRefusal s = s.store.pos := by
  simp [posAfterRefusal, h]

end Sys2Proof.Machine
end

