-- ==== Sys2Proof/Laws/Exec.lean ====
section
/-! SUPPORT. What one event can do, said once: a register operation touches no part of a bus cycle's frame, and every bus
cycle is a read or a write around such an operation. -/

namespace Sys2Proof.Machine

/-! ## Register operations stay inside the frame -/

/-- A register or memory operation touches neither the transceiver nor what the model keeps about events. -/
structure KeepsFrame (s t : State) : Prop where
  cfg      : t.cfg = s.cfg
  xcvr     : t.xcvr = s.xcvr
  events   : t.events = s.events
  initOpen : t.initOpen = s.initOpen
  bus      : t.bus = s.bus
  switches : t.switches = s.switches

theorem whenAvailable_keepsFrame {op : State → State} (h : ∀ s, KeepsFrame s (op s)) (s : State) :
    KeepsFrame s (whenAvailable op s) := by
  unfold whenAvailable
  split
  · exact h s
  · exact ⟨rfl, rfl, rfl, rfl, rfl, rfl⟩

theorem selectDisk_keepsFrame (s : State) : KeepsFrame s (selectDisk s) := by
  refine whenAvailable_keepsFrame (fun _ => ?_) s
  exact ⟨rfl, rfl, rfl, rfl, rfl, rfl⟩

theorem seekDisk_keepsFrame (s : State) : KeepsFrame s (seekDisk s) :=
  whenAvailable_keepsFrame (fun s => by
    obtain ⟨-, h⟩ | ⟨-, h⟩ := storeSeek_cases (seekOffset s) (latchCommand 0x01#8 s) <;> rw [h] <;>
      exact ⟨rfl, rfl, rfl, rfl, rfl, rfl⟩) s

theorem reservedCommand_keepsFrame (v : Byte) (s : State) : KeepsFrame s (reservedCommand v s) := by
  refine whenAvailable_keepsFrame (fun _ => ?_) s
  exact ⟨rfl, rfl, rfl, rfl, rfl, rfl⟩

theorem latchParam_keepsFrame (k : Nat) (v : Byte) (s : State) : KeepsFrame s (latchParam k v s) := by
  refine whenAvailable_keepsFrame (fun _ => ?_) s
  exact ⟨rfl, rfl, rfl, rfl, rfl, rfl⟩

theorem writeStoreByte_keepsFrame (v : Byte) (s : State) : KeepsFrame s (writeStoreByte v s) :=
  whenAvailable_keepsFrame (fun s => by
    obtain ⟨-, h⟩ | ⟨-, h⟩ := storeWrite_cases v s <;> rw [h] <;> exact ⟨rfl, rfl, rfl, rfl, rfl, rfl⟩) s

theorem readStoreByte_keepsFrame (s : State) : KeepsFrame s (readStoreByte s).2 := by
  unfold readStoreByte
  split
  · obtain ⟨-, h⟩ | ⟨-, h⟩ := storeRead_cases s <;> rw [h] <;> exact ⟨rfl, rfl, rfl, rfl, rfl, rfl⟩
  · exact ⟨rfl, rfl, rfl, rfl, rfl, rfl⟩

/-! ## Every bus cycle -/

/-- A bus cycle is a write around an operation that keeps the frame, or a read around one (R260, R267). -/
theorem exec_busCycle (i : Instr) (h : isBusCycle i = true) :
    (neededDirection i = some .sample ∧ ∃ a sync d target, (∀ s, exec i s = busWrite a sync d target s) ∧
      ∀ s, KeepsFrame s (target d s)) ∨
    (neededDirection i = some .drive ∧ ∃ a sync target, (∀ s, exec i s = busRead a sync target s) ∧
      ∀ s, KeepsFrame s (target s).2) := by
  have keep : ∀ s : State, KeepsFrame s s := fun _ => ⟨rfl, rfl, rfl, rfl, rfl, rfl⟩
  cases i with
  | init => cases h
  | tick => cases h
  | reservedKind => cases h
  | diskSelect => exact .inl ⟨rfl, _, _, _, _, fun _ => rfl, selectDisk_keepsFrame⟩
  | diskSeek => exact .inl ⟨rfl, _, _, _, _, fun _ => rfl, seekDisk_keepsFrame⟩
  | diskCmdReserved => exact .inl ⟨rfl, _, _, _, _, fun _ => rfl, reservedCommand_keepsFrame _⟩
  | diskParam0W => exact .inl ⟨rfl, _, _, _, _, fun _ => rfl, latchParam_keepsFrame _ _⟩
  | diskParam1W => exact .inl ⟨rfl, _, _, _, _, fun _ => rfl, latchParam_keepsFrame _ _⟩
  | diskParam2W => exact .inl ⟨rfl, _, _, _, _, fun _ => rfl, latchParam_keepsFrame _ _⟩
  | diskParam3W => exact .inl ⟨rfl, _, _, _, _, fun _ => rfl, latchParam_keepsFrame _ _⟩
  | diskDataWA => exact .inl ⟨rfl, _, _, _, _, fun _ => rfl, writeStoreByte_keepsFrame _⟩
  | diskDataWB => exact .inl ⟨rfl, _, _, _, _, fun _ => rfl, writeStoreByte_keepsFrame _⟩
  | diskDataRA => exact .inr ⟨rfl, _, _, _, fun _ => rfl, readStoreByte_keepsFrame⟩
  | diskDataRB => exact .inr ⟨rfl, _, _, _, fun _ => rfl, readStoreByte_keepsFrame⟩
  | diskStatusRA => exact .inr ⟨rfl, _, _, _, fun _ => rfl, keep⟩
  | diskStatusRB => exact .inr ⟨rfl, _, _, _, fun _ => rfl, keep⟩
  | diskStatusWA => exact .inl ⟨rfl, _, _, _, _, fun _ => rfl, keep⟩
  | diskStatusWB => exact .inl ⟨rfl, _, _, _, _, fun _ => rfl, keep⟩
  | diskCommandR => exact .inr ⟨rfl, _, _, _, fun _ => rfl, keep⟩
  | diskParam0R => exact .inr ⟨rfl, _, _, _, fun _ => rfl, keep⟩
  | diskParam1R => exact .inr ⟨rfl, _, _, _, fun _ => rfl, keep⟩
  | diskParam2R => exact .inr ⟨rfl, _, _, _, fun _ => rfl, keep⟩
  | diskParam3R => exact .inr ⟨rfl, _, _, _, fun _ => rfl, keep⟩
  | timerTargetR => exact .inr ⟨rfl, _, _, _, fun _ => rfl, keep⟩
  | timerCountR => exact .inr ⟨rfl, _, _, _, fun _ => rfl, keep⟩
  | timerResetR => exact .inr ⟨rfl, _, _, _, fun _ => rfl, keep⟩
  | timerTrigR => exact .inr ⟨rfl, _, _, _, fun _ => rfl, keep⟩
  | timerPauseR => exact .inr ⟨rfl, _, _, _, fun _ => rfl, keep⟩
  | timerContR => exact .inr ⟨rfl, _, _, _, fun _ => rfl, keep⟩
  | memR sync addr => exact .inr ⟨rfl, addr, sync, fun t => (memRead addr t, t), fun _ => rfl, keep⟩
  | timerTargetW => exact .inl ⟨rfl, _, _, _, _, fun _ => rfl, fun _ => ⟨rfl, rfl, rfl, rfl, rfl, rfl⟩⟩
  | timerCountW => exact .inl ⟨rfl, _, _, _, _, fun _ => rfl, keep⟩
  | timerResetW => exact .inl ⟨rfl, _, _, _, _, fun _ => rfl, fun _ => ⟨rfl, rfl, rfl, rfl, rfl, rfl⟩⟩
  | timerTrigW => exact .inl ⟨rfl, _, _, _, _, fun _ => rfl, fun _ => ⟨rfl, rfl, rfl, rfl, rfl, rfl⟩⟩
  | timerPauseW => exact .inl ⟨rfl, _, _, _, _, fun _ => rfl, fun _ => ⟨rfl, rfl, rfl, rfl, rfl, rfl⟩⟩
  | timerContW => exact .inl ⟨rfl, _, _, _, _, fun _ => rfl, fun _ => ⟨rfl, rfl, rfl, rfl, rfl, rfl⟩⟩
  | memW => exact .inl ⟨rfl, _, _, _, _, fun _ => rfl, fun _ => ⟨rfl, rfl, rfl, rfl, rfl, rfl⟩⟩
  | diskInvalid sync off acc =>
    cases acc with
    | read => exact .inr ⟨rfl, _, _, _, fun _ => rfl, keep⟩
    | write => exact .inl ⟨rfl, _, _, _, _, fun _ => rfl, keep⟩
  | timerInvalid sync off acc =>
    cases acc with
    | read => exact .inr ⟨rfl, _, _, _, fun _ => rfl, keep⟩
    | write => exact .inl ⟨rfl, _, _, _, _, fun _ => rfl, keep⟩

/-! ## The effect of a bus cycle on everything but its frame -/

/-- What a bus cycle does to the peripherals, the store and the memory, without the cycle around it. -/
def effect : Instr → State → State
  | .init => id
  | .tick => id
  | .reservedKind => id
  | .diskSelect _ => selectDisk
  | .diskSeek _ => seekDisk
  | .diskCmdReserved _ d => reservedCommand d
  | .diskCommandR _ => id
  | .diskParam0W _ d => latchParam 0 d
  | .diskParam0R _ => id
  | .diskParam1W _ d => latchParam 1 d
  | .diskParam1R _ => id
  | .diskDataWA _ d => writeStoreByte d
  | .diskDataRA _ => fun s => (readStoreByte s).2
  | .diskStatusRA _ => id
  | .diskStatusWA _ _ => id
  | .diskParam2W _ d => latchParam 2 d
  | .diskParam2R _ => id
  | .diskParam3W _ d => latchParam 3 d
  | .diskParam3R _ => id
  | .diskDataWB _ d => writeStoreByte d
  | .diskDataRB _ => fun s => (readStoreByte s).2
  | .diskStatusRB _ => id
  | .diskStatusWB _ _ => id
  | .timerTargetW _ d => writeTarget d
  | .timerTargetR _ => id
  | .timerCountW _ _ => id
  | .timerCountR _ => id
  | .timerResetW _ _ => resetPeriod
  | .timerResetR _ => id
  | .timerTrigW _ _ => triggerNow
  | .timerTrigR _ => id
  | .timerPauseW _ _ => pauseTimer
  | .timerPauseR _ => id
  | .timerContW _ _ => resumeTimer
  | .timerContR _ => id
  | .diskInvalid _ _ _ => id
  | .timerInvalid _ _ _ => id
  | .memR _ _ => id
  | .memW _ a d => memWrite a d

/-- Two states that differ in nothing but the frame of a bus cycle. -/
structure SamePeripherals (s t : State) : Prop where
  cfg    : t.cfg = s.cfg
  timer  : t.timer = s.timer
  disk   : t.disk = s.disk
  store  : t.store = s.store
  mem    : t.mem = s.mem
  draws  : t.draws = s.draws
  raised : t.raised = s.raised

/-! ### The effect does not depend on the frame -/

theorem whenAvailable_setDataDirection {op : State → State} (d : Direction)
    (h : ∀ s, op (setDataDirection d s) = setDataDirection d (op s)) (s : State) :
    whenAvailable op (setDataDirection d s) = setDataDirection d (whenAvailable op s) := by
  cases ho : s.cfg.storeOpen
  · rw [whenAvailable_closed (by simpa using ho), whenAvailable_closed ho]
    rfl
  · rw [whenAvailable_open (by simpa using ho), whenAvailable_open ho, h]

theorem selectDisk_setDataDirection (d : Direction) (s : State) :
    selectDisk (setDataDirection d s) = setDataDirection d (selectDisk s) := by
  refine whenAvailable_setDataDirection d (fun _ => ?_) s
  rfl

theorem seekDisk_setDataDirection (d : Direction) (s : State) :
    seekDisk (setDataDirection d s) = setDataDirection d (seekDisk s) := by
  refine whenAvailable_setDataDirection d (fun s => ?_) s
  have same : seekSucceeds (seekOffset (setDataDirection d s)) (latchCommand 0x01#8 (setDataDirection d s)) =
      seekSucceeds (seekOffset s) (latchCommand 0x01#8 s) := rfl
  cases h : seekSucceeds (seekOffset s) (latchCommand 0x01#8 s) <;> simp [storeSeek, same, h] <;> rfl

theorem reservedCommand_setDataDirection (v : Byte) (d : Direction) (s : State) :
    reservedCommand v (setDataDirection d s) = setDataDirection d (reservedCommand v s) := by
  refine whenAvailable_setDataDirection d (fun _ => ?_) s
  rfl

theorem latchParam_setDataDirection (k : Nat) (v : Byte) (d : Direction) (s : State) :
    latchParam k v (setDataDirection d s) = setDataDirection d (latchParam k v s) := by
  refine whenAvailable_setDataDirection d (fun _ => ?_) s
  rfl

theorem writeStoreByte_setDataDirection (v : Byte) (d : Direction) (s : State) :
    writeStoreByte v (setDataDirection d s) = setDataDirection d (writeStoreByte v s) := by
  refine whenAvailable_setDataDirection d (fun s => ?_) s
  have same : writeSucceeds (setDataDirection d s) = writeSucceeds s := rfl
  cases h : writeSucceeds s <;> simp [storeWrite, same, h] <;> rfl

theorem readStoreByte_setDataDirection (d : Direction) (s : State) :
    (readStoreByte (setDataDirection d s)).2 = setDataDirection d (readStoreByte s).2 := by
  have same : readSucceeds (setDataDirection d s) = readSucceeds s := rfl
  cases ho : s.cfg.storeOpen
  · simp [readStoreByte, ho]
    rfl
  · cases h : readSucceeds s <;> simp [readStoreByte, storeRead, same, h, ho] <;> rfl

theorem effect_setDataDirection (i : Instr) (d : Direction) (s : State) :
    effect i (setDataDirection d s) = setDataDirection d (effect i s) := by
  cases i <;> first
    | rfl
    | exact selectDisk_setDataDirection d s
    | exact seekDisk_setDataDirection d s
    | exact reservedCommand_setDataDirection _ d s
    | exact latchParam_setDataDirection _ _ d s
    | exact writeStoreByte_setDataDirection _ d s
    | exact readStoreByte_setDataDirection d s

theorem effect_keepsFrame (i : Instr) (s : State) : KeepsFrame s (effect i s) := by
  cases i <;> first
    | exact ⟨rfl, rfl, rfl, rfl, rfl, rfl⟩
    | exact selectDisk_keepsFrame s
    | exact seekDisk_keepsFrame s
    | exact reservedCommand_keepsFrame _ s
    | exact latchParam_keepsFrame _ _ s
    | exact writeStoreByte_keepsFrame _ s
    | exact readStoreByte_keepsFrame s

/-- The effect commutes with the direction a cycle needs. -/
theorem effect_needDataDirection (i : Instr) (d : Direction) (s : State) :
    effect i (needDataDirection d s) = needDataDirection d (effect i s) := by
  unfold needDataDirection
  rw [(effect_keepsFrame i s).xcvr]
  split
  · rfl
  · exact effect_setDataDirection i d s

/-- If a bus cycle has a next state, its peripherals, store and memory are the effect's (R260, R263). -/
theorem exec_effect {i : Instr} (hb : isBusCycle i = true) {s t : State} (h : exec i s = .next t) :
    SamePeripherals (effect i (openEvent s)) t := by
  have write : ∀ {a : Addr} {sync : Bool} {v : Byte} {target : Byte → State → State},
      busWrite a sync v target s = .next t → target v = effect i → SamePeripherals (effect i (openEvent s)) t := by
    intro a sync v target h ht
    obtain ⟨-, rfl⟩ := busWrite_next h
    rw [ht, effect_needDataDirection]
    constructor <;> simp
  have read : ∀ {a : Addr} {sync : Bool} {target : State → Byte × State},
      busRead a sync target s = .next t → (target (openEvent s)).2 = effect i (openEvent s) →
      SamePeripherals (effect i (openEvent s)) t := by
    intro a sync target h ht
    obtain ⟨-, rfl⟩ := busRead_next h
    rw [ht]
    constructor <;> simp
  cases i with
  | init => cases hb
  | tick => cases hb
  | reservedKind => cases hb
  | diskInvalid sync off acc =>
    cases acc with
    | read => exact read h rfl
    | write => exact write h rfl
  | timerInvalid sync off acc =>
    cases acc with
    | read => exact read h rfl
    | write => exact write h rfl
  | _ => first | exact write h rfl | exact read h rfl

end Sys2Proof.Machine
end

