-- ==== Sys2Proof/Laws/Effect.lean ====
section
/-! SUPPORT. What a bus cycle can do to each part of the block: the timer, the memory, the disk registers, the store. -/

namespace Sys2Proof.Machine

/-! ## The timer and the memory -/

/-- A disk operation touches neither the timer nor the memory. -/
structure OnlyDisk (s t : State) : Prop where
  timer : t.timer = s.timer
  mem   : t.mem = s.mem

theorem whenAvailable_onlyDisk {op : State → State} (h : ∀ s, OnlyDisk s (op s)) (s : State) :
    OnlyDisk s (whenAvailable op s) := by
  unfold whenAvailable
  split
  · exact h s
  · exact ⟨rfl, rfl⟩

theorem selectDisk_onlyDisk (s : State) : OnlyDisk s (selectDisk s) := by
  refine whenAvailable_onlyDisk (fun _ => ?_) s
  exact ⟨rfl, rfl⟩

theorem seekDisk_onlyDisk (s : State) : OnlyDisk s (seekDisk s) :=
  whenAvailable_onlyDisk (fun s => by
    obtain ⟨-, h⟩ | ⟨-, h⟩ := storeSeek_cases (seekOffset s) (latchCommand 0x01#8 s) <;> rw [h] <;> exact ⟨rfl, rfl⟩) s

theorem reservedCommand_onlyDisk (v : Byte) (s : State) : OnlyDisk s (reservedCommand v s) := by
  refine whenAvailable_onlyDisk (fun _ => ?_) s
  exact ⟨rfl, rfl⟩

theorem latchParam_onlyDisk (k : Nat) (v : Byte) (s : State) : OnlyDisk s (latchParam k v s) := by
  refine whenAvailable_onlyDisk (fun _ => ?_) s
  exact ⟨rfl, rfl⟩

theorem writeStoreByte_onlyDisk (v : Byte) (s : State) : OnlyDisk s (writeStoreByte v s) :=
  whenAvailable_onlyDisk (fun s => by
    obtain ⟨-, h⟩ | ⟨-, h⟩ := storeWrite_cases v s <;> rw [h] <;> exact ⟨rfl, rfl⟩) s

theorem readStoreByte_onlyDisk (s : State) : OnlyDisk s (readStoreByte s).2 := by
  unfold readStoreByte
  split
  · obtain ⟨-, h⟩ | ⟨-, h⟩ := storeRead_cases s <;> rw [h] <;> exact ⟨rfl, rfl⟩
  · exact ⟨rfl, rfl⟩

/-- What a bus cycle does to the timer. -/
def timerEffect : Instr → Timer → Timer
  | .timerTargetW _ d, t => acknowledgeIrq { t with target := d, ticks := 0#16 }
  | .timerResetW _ _, t => acknowledgeIrq { t with ticks := 0#16 }
  | .timerTrigW _ _, t => assertIrq { t with ticks := 0#16 }
  | .timerPauseW _ _, t => { t with mode := .paused }
  | .timerContW _ _, t => acknowledgeIrq t
  | _, t => t

/-- What a bus cycle does to the memory. -/
def memEffect (c : Config) : Instr → Memory → Memory
  | .memW _ a d, m => m.write (memIndex c a) d
  | _, m => m

theorem effect_timer (i : Instr) (s : State) : (effect i s).timer = timerEffect i s.timer := by
  cases i <;> first
    | rfl
    | exact (selectDisk_onlyDisk s).timer
    | exact (seekDisk_onlyDisk s).timer
    | exact (reservedCommand_onlyDisk _ s).timer
    | exact (latchParam_onlyDisk _ _ s).timer
    | exact (writeStoreByte_onlyDisk _ s).timer
    | exact (readStoreByte_onlyDisk s).timer

theorem effect_mem (i : Instr) (s : State) : (effect i s).mem = memEffect s.cfg i s.mem := by
  cases i <;> first
    | rfl
    | exact (selectDisk_onlyDisk s).mem
    | exact (seekDisk_onlyDisk s).mem
    | exact (reservedCommand_onlyDisk _ s).mem
    | exact (latchParam_onlyDisk _ _ s).mem
    | exact (writeStoreByte_onlyDisk _ s).mem
    | exact (readStoreByte_onlyDisk s).mem

/-! ## The store and the disk registers -/

/-- What the availability gate can do. -/
theorem whenAvailable_cases (op : State → State) (s : State) :
    (s.cfg.storeOpen = true ∧ whenAvailable op s = op s) ∨
    (s.cfg.storeOpen = false ∧ whenAvailable op s = raiseError .deviceUnavailable s) := by
  cases h : s.cfg.storeOpen
  · exact .inr ⟨rfl, whenAvailable_closed h op⟩
  · exact .inl ⟨rfl, whenAvailable_open h op⟩

/-- What SEEK can do (R213). -/
theorem seekDisk_cases (s : State) :
    (s.cfg.storeOpen = false ∧ seekDisk s = raiseError .deviceUnavailable s) ∨
    (s.cfg.storeOpen = true ∧ seekSucceeds (seekOffset s) s = true ∧
      seekDisk s = reportOk (moveStore (seekOffset s) (latchCommand 0x01#8 s))) ∨
    (s.cfg.storeOpen = true ∧ seekSucceeds (seekOffset s) s = false ∧
      seekDisk s = raiseError .seekRejected (moveStore (Config.freePos s.draws) (latchCommand 0x01#8 s))) := by
  cases ho : s.cfg.storeOpen
  · exact .inl ⟨rfl, whenAvailable_closed ho _⟩
  · obtain ⟨hr, e⟩ | ⟨hr, e⟩ := storeSeek_cases (seekOffset s) (latchCommand 0x01#8 s)
    · exact .inr (.inl ⟨rfl, hr, (whenAvailable_open ho _).trans (by simp only [e])⟩)
    · exact .inr (.inr ⟨rfl, hr, (whenAvailable_open ho _).trans (by simp only [e]; rfl)⟩)

/-- What a read of DISK_DATA can do (R219). -/
theorem readStoreByte_cases (s : State) :
    (s.cfg.storeOpen = false ∧ readStoreByte s = (0x00#8, raiseError .deviceUnavailable s)) ∨
    (s.cfg.storeOpen = true ∧ readSucceeds s = true ∧
      readStoreByte s = (s.store.bytes.read s.store.pos, reportOk (moveStore (s.store.pos + 1) s))) ∨
    (s.cfg.storeOpen = true ∧ readSucceeds s = false ∧
      readStoreByte s = (0x00#8, raiseError .transferRejected (moveStore (posAfterRefusal s) s))) := by
  unfold readStoreByte
  cases ho : s.cfg.storeOpen
  · exact .inl ⟨rfl, by simp⟩
  · obtain ⟨hr, e⟩ | ⟨hr, e⟩ := storeRead_cases s
    · exact .inr (.inl ⟨rfl, hr, by simp [e]⟩)
    · exact .inr (.inr ⟨rfl, hr, by simp [e]⟩)

/-- What a write to DISK_DATA can do (R220). -/
theorem writeStoreByte_cases (v : Byte) (s : State) :
    (s.cfg.storeOpen = false ∧ writeStoreByte v s = raiseError .deviceUnavailable s) ∨
    (s.cfg.storeOpen = true ∧ writeSucceeds s = true ∧
      writeStoreByte v s = reportOk (moveStore (s.store.pos + 1) (putStoreByte v s))) ∨
    (s.cfg.storeOpen = true ∧ writeSucceeds s = false ∧
      writeStoreByte v s = raiseError .transferRejected (moveStore (posAfterRefusal s) s)) := by
  cases ho : s.cfg.storeOpen
  · exact .inl ⟨rfl, whenAvailable_closed ho _⟩
  · obtain ⟨hr, e⟩ | ⟨hr, e⟩ := storeWrite_cases v s
    · exact .inr (.inl ⟨rfl, hr, (whenAvailable_open ho _).trans (by simp only [e])⟩)
    · exact .inr (.inr ⟨rfl, hr, (whenAvailable_open ho _).trans (by simp only [e])⟩)

/-- What SELECT can do (R212). -/
theorem selectDisk_cases (s : State) :
    (s.cfg.storeOpen = true ∧ selectDisk s = reportOk (latchCommand 0x00#8 s)) ∨
    (s.cfg.storeOpen = false ∧ selectDisk s = raiseError .deviceUnavailable s) :=
  whenAvailable_cases _ s

/-- What a write to DISK_PARAM_i can do (R215 to R218). -/
theorem latchParam_cases (k : Nat) (v : Byte) (s : State) :
    (s.cfg.storeOpen = true ∧ latchParam k v s = { s with disk := { s.disk with param := s.disk.param.set k v } }) ∨
    (s.cfg.storeOpen = false ∧ latchParam k v s = raiseError .deviceUnavailable s) :=
  whenAvailable_cases _ s

/-- What a reserved command can do (R214). -/
theorem reservedCommand_cases (v : Byte) (s : State) :
    (s.cfg.storeOpen = true ∧ reservedCommand v s =
      { s with disk := { s.disk with cmd := v, status := if Config.freeOk s.draws then .ok else .nok },
               draws := s.draws + 1 }) ∨
    (s.cfg.storeOpen = false ∧ reservedCommand v s = raiseError .deviceUnavailable s) :=
  whenAvailable_cases _ s

/-- No bus cycle changes how many parameter registers there are. -/
theorem effect_paramLength (i : Instr) (s : State) : (effect i s).disk.param.length = s.disk.param.length := by
  cases i with
  | diskSelect => obtain ⟨-, h⟩ | ⟨-, h⟩ := selectDisk_cases s <;> simp [effect, h]
  | diskSeek => obtain ⟨-, h⟩ | ⟨-, -, h⟩ | ⟨-, -, h⟩ := seekDisk_cases s <;> simp [effect, h]
  | diskCmdReserved _ v => obtain ⟨-, h⟩ | ⟨-, h⟩ := reservedCommand_cases v s <;> simp [effect, h]
  | diskParam0W _ v => obtain ⟨-, h⟩ | ⟨-, h⟩ := latchParam_cases 0 v s <;> simp [effect, h]
  | diskParam1W _ v => obtain ⟨-, h⟩ | ⟨-, h⟩ := latchParam_cases 1 v s <;> simp [effect, h]
  | diskParam2W _ v => obtain ⟨-, h⟩ | ⟨-, h⟩ := latchParam_cases 2 v s <;> simp [effect, h]
  | diskParam3W _ v => obtain ⟨-, h⟩ | ⟨-, h⟩ := latchParam_cases 3 v s <;> simp [effect, h]
  | diskDataWA _ v => obtain ⟨-, h⟩ | ⟨-, -, h⟩ | ⟨-, -, h⟩ := writeStoreByte_cases v s <;> simp [effect, h]
  | diskDataWB _ v => obtain ⟨-, h⟩ | ⟨-, -, h⟩ | ⟨-, -, h⟩ := writeStoreByte_cases v s <;> simp [effect, h]
  | diskDataRA => obtain ⟨-, h⟩ | ⟨-, -, h⟩ | ⟨-, -, h⟩ := readStoreByte_cases s <;> simp [effect, h]
  | diskDataRB => obtain ⟨-, h⟩ | ⟨-, -, h⟩ | ⟨-, -, h⟩ := readStoreByte_cases s <;> simp [effect, h]
  | _ => rfl

/-- While the store is unavailable a bus cycle leaves the disk's registers or sets the status to NOK, and leaves the store
(R211). -/
theorem effect_unavailable (i : Instr) {s : State} (h : s.cfg.storeOpen = false) :
    ((effect i s).disk = s.disk ∨ (effect i s).disk = { s.disk with status := .nok }) ∧ (effect i s).store = s.store := by
  have closed := fun op => whenAvailable_closed h op
  cases i <;> first
    | exact ⟨.inl rfl, rfl⟩
    | (simp [effect, selectDisk, seekDisk, reservedCommand, latchParam, writeStoreByte, closed]; done)
    | simp [effect, readStoreByte, h]

/-- The store's bytes change only where the store accepts a byte, at its position. -/
theorem effect_bytes (i : Instr) (s : State) :
    (effect i s).store.bytes = s.store.bytes ∨
    ∃ sync v, (i = .diskDataWA sync v ∨ i = .diskDataWB sync v) ∧ s.cfg.storeOpen = true ∧ writeSucceeds s = true ∧
      (effect i s).store.bytes = s.store.bytes.write s.store.pos v := by
  cases i with
  | diskSelect => obtain ⟨-, h⟩ | ⟨-, h⟩ := selectDisk_cases s <;> simp [effect, h]
  | diskSeek => obtain ⟨-, h⟩ | ⟨-, -, h⟩ | ⟨-, -, h⟩ := seekDisk_cases s <;> simp [effect, h]
  | diskCmdReserved _ v => obtain ⟨-, h⟩ | ⟨-, h⟩ := reservedCommand_cases v s <;> simp [effect, h]
  | diskParam0W _ v => obtain ⟨-, h⟩ | ⟨-, h⟩ := latchParam_cases 0 v s <;> simp [effect, h]
  | diskParam1W _ v => obtain ⟨-, h⟩ | ⟨-, h⟩ := latchParam_cases 1 v s <;> simp [effect, h]
  | diskParam2W _ v => obtain ⟨-, h⟩ | ⟨-, h⟩ := latchParam_cases 2 v s <;> simp [effect, h]
  | diskParam3W _ v => obtain ⟨-, h⟩ | ⟨-, h⟩ := latchParam_cases 3 v s <;> simp [effect, h]
  | diskDataRA => obtain ⟨-, h⟩ | ⟨-, -, h⟩ | ⟨-, -, h⟩ := readStoreByte_cases s <;> simp [effect, h]
  | diskDataRB => obtain ⟨-, h⟩ | ⟨-, -, h⟩ | ⟨-, -, h⟩ := readStoreByte_cases s <;> simp [effect, h]
  | diskDataWA sync v =>
    obtain ⟨-, h⟩ | ⟨ho, hw, h⟩ | ⟨-, -, h⟩ := writeStoreByte_cases v s
    · simp [effect, h]
    · exact .inr ⟨sync, v, .inl rfl, ho, hw, by simp [effect, h]⟩
    · simp [effect, h]
  | diskDataWB sync v =>
    obtain ⟨-, h⟩ | ⟨ho, hw, h⟩ | ⟨-, -, h⟩ := writeStoreByte_cases v s
    · simp [effect, h]
    · exact .inr ⟨sync, v, .inr rfl, ho, hw, by simp [effect, h]⟩
    · simp [effect, h]
  | _ => exact .inl rfl

/-- Nothing but SEEK and DISK_DATA moves the store's position. -/
theorem effect_pos (i : Instr) (s : State) :
    (effect i s).store.pos = s.store.pos ∨ (∃ sync, i = .diskSeek sync) ∨ isDiskData i = true := by
  cases i with
  | diskSelect => obtain ⟨-, h⟩ | ⟨-, h⟩ := selectDisk_cases s <;> simp [effect, h]
  | diskCmdReserved _ v => obtain ⟨-, h⟩ | ⟨-, h⟩ := reservedCommand_cases v s <;> simp [effect, h]
  | diskParam0W _ v => obtain ⟨-, h⟩ | ⟨-, h⟩ := latchParam_cases 0 v s <;> simp [effect, h]
  | diskParam1W _ v => obtain ⟨-, h⟩ | ⟨-, h⟩ := latchParam_cases 1 v s <;> simp [effect, h]
  | diskParam2W _ v => obtain ⟨-, h⟩ | ⟨-, h⟩ := latchParam_cases 2 v s <;> simp [effect, h]
  | diskParam3W _ v => obtain ⟨-, h⟩ | ⟨-, h⟩ := latchParam_cases 3 v s <;> simp [effect, h]
  | diskSeek sync => exact .inr (.inl ⟨sync, rfl⟩)
  | diskDataRA => exact .inr (.inr rfl)
  | diskDataRB => exact .inr (.inr rfl)
  | diskDataWA => exact .inr (.inr rfl)
  | diskDataWB => exact .inr (.inr rfl)
  | _ => exact .inl rfl

end Sys2Proof.Machine
end

