-- ==== Sys2Proof/Laws/PerInstr.lean ====
section
/-! SUPPORT. Per constructor: its encoding has the fixed bits of its own row of spec/opcode_table.json, the row that stands
at the constructor's place in the table. -/

namespace Sys2Proof.Laws.EncodingFitsTable

/-- `i`'s word has the bits its row fixes, and the row is `i`'s by name. -/
def Statement (i : Instr) : Prop :=
  ∃ r, opcodeTable[i.ctorIdx]? = some r ∧ r.mnemonic = mnemonic i ∧ encode i &&& r.mask = r.pat

/-! ## Event words under a mask -/

/-- Masking an event word masks its fields. -/
theorem eventWord_and (k k' : BitVec 2) (s s' r r' : Bool) (a a' : Addr) (d d' : Byte) :
    eventWord k s r a d &&& eventWord k' s' r' a' d' =
      eventWord (k &&& k') (s && s') (r && r') (a &&& a') (d &&& d') := by
  have step := @BitVec.and_append
  unfold eventWord
  rw [← BitVec.ofBool_and_ofBool, ← BitVec.ofBool_and_ofBool]
  exact step.trans (congrArg (· ++ _) (step.trans (congrArg (· ++ _) (step.trans (congrArg (· ++ _) step)))))

/-- A write word under the mask of a row that fixes kind, direction and address. -/
theorem writeWord_cycle (sync : Bool) (a : Addr) (d : Byte) :
    writeWord sync a d &&& 0xDFFFF00#28 = eventWord 0#2 false false a 0x00#8 := by
  rw [show 0xDFFFF00#28 = eventWord 3#2 false true (BitVec.allOnes 16) 0x00#8 by decide, writeWord, eventWord_and,
    BitVec.and_allOnes]
  simp

/-- A read word under the mask of a row that fixes kind, direction and address. -/
theorem readWord_cycle (sync : Bool) (a : Addr) :
    readWord sync a &&& 0xDFFFF00#28 = eventWord 0#2 false true a 0x00#8 := by
  rw [show 0xDFFFF00#28 = eventWord 3#2 false true (BitVec.allOnes 16) 0x00#8 by decide, readWord, eventWord_and,
    BitVec.and_allOnes]
  simp

/-- A cycle's word under the mask of an invalid-offset row: only kind and the address above the offset are left. -/
theorem accessWord_window (sync : Bool) (a : Addr) (acc : Access) :
    accessWord sync a acc &&& 0xCFFE000#28 = eventWord 0#2 false false (a &&& 0xFFE0#16) 0x00#8 := by
  rw [show 0xCFFE000#28 = eventWord 3#2 false false 0xFFE0#16 0x00#8 by decide]
  cases acc <;> simp [accessWord, readWord, writeWord, eventWord_and]

/-- A memory word under the mask of its row: only kind and direction are left. -/
theorem accessWord_memory (sync : Bool) (a : Addr) (acc : Access) :
    accessWord sync a acc &&& 0xD000000#28 = eventWord 0#2 false (acc = .read) 0x0000#16 0x00#8 := by
  rw [show 0xD000000#28 = eventWord 3#2 false true 0x0000#16 0x00#8 by decide]
  cases acc <;> simp [accessWord, readWord, writeWord, eventWord_and]

/-! ## One lemma per constructor -/

theorem init : Statement .init := ⟨_, rfl, rfl, rfl⟩

theorem tick : Statement .tick := ⟨_, rfl, rfl, rfl⟩

theorem reservedKind : Statement .reservedKind := ⟨_, rfl, rfl, rfl⟩

theorem diskSelect (sync : Bool) : Statement (.diskSelect sync) := ⟨_, rfl, rfl, by cases sync <;> rfl⟩

theorem diskSeek (sync : Bool) : Statement (.diskSeek sync) := ⟨_, rfl, rfl, by cases sync <;> rfl⟩

theorem diskCmdReserved (sync : Bool) (data : Byte) : Statement (.diskCmdReserved sync data) :=
  ⟨_, rfl, rfl, writeWord_cycle sync _ data⟩

theorem diskCommandR (sync : Bool) : Statement (.diskCommandR sync) := ⟨_, rfl, rfl, readWord_cycle sync _⟩

theorem diskParam0W (sync : Bool) (data : Byte) : Statement (.diskParam0W sync data) :=
  ⟨_, rfl, rfl, writeWord_cycle sync _ data⟩

theorem diskParam0R (sync : Bool) : Statement (.diskParam0R sync) := ⟨_, rfl, rfl, readWord_cycle sync _⟩

theorem diskParam1W (sync : Bool) (data : Byte) : Statement (.diskParam1W sync data) :=
  ⟨_, rfl, rfl, writeWord_cycle sync _ data⟩

theorem diskParam1R (sync : Bool) : Statement (.diskParam1R sync) := ⟨_, rfl, rfl, readWord_cycle sync _⟩

theorem diskDataWA (sync : Bool) (data : Byte) : Statement (.diskDataWA sync data) :=
  ⟨_, rfl, rfl, writeWord_cycle sync _ data⟩

theorem diskDataRA (sync : Bool) : Statement (.diskDataRA sync) := ⟨_, rfl, rfl, readWord_cycle sync _⟩

theorem diskStatusRA (sync : Bool) : Statement (.diskStatusRA sync) := ⟨_, rfl, rfl, readWord_cycle sync _⟩

theorem diskStatusWA (sync : Bool) (data : Byte) : Statement (.diskStatusWA sync data) :=
  ⟨_, rfl, rfl, writeWord_cycle sync _ data⟩

theorem diskParam2W (sync : Bool) (data : Byte) : Statement (.diskParam2W sync data) :=
  ⟨_, rfl, rfl, writeWord_cycle sync _ data⟩

theorem diskParam2R (sync : Bool) : Statement (.diskParam2R sync) := ⟨_, rfl, rfl, readWord_cycle sync _⟩

theorem diskParam3W (sync : Bool) (data : Byte) : Statement (.diskParam3W sync data) :=
  ⟨_, rfl, rfl, writeWord_cycle sync _ data⟩

theorem diskParam3R (sync : Bool) : Statement (.diskParam3R sync) := ⟨_, rfl, rfl, readWord_cycle sync _⟩

theorem diskDataWB (sync : Bool) (data : Byte) : Statement (.diskDataWB sync data) :=
  ⟨_, rfl, rfl, writeWord_cycle sync _ data⟩

theorem diskDataRB (sync : Bool) : Statement (.diskDataRB sync) := ⟨_, rfl, rfl, readWord_cycle sync _⟩

theorem diskStatusRB (sync : Bool) : Statement (.diskStatusRB sync) := ⟨_, rfl, rfl, readWord_cycle sync _⟩

theorem diskStatusWB (sync : Bool) (data : Byte) : Statement (.diskStatusWB sync data) :=
  ⟨_, rfl, rfl, writeWord_cycle sync _ data⟩

theorem timerTargetW (sync : Bool) (data : Byte) : Statement (.timerTargetW sync data) :=
  ⟨_, rfl, rfl, writeWord_cycle sync _ data⟩

theorem timerTargetR (sync : Bool) : Statement (.timerTargetR sync) := ⟨_, rfl, rfl, readWord_cycle sync _⟩

theorem timerCountW (sync : Bool) (data : Byte) : Statement (.timerCountW sync data) :=
  ⟨_, rfl, rfl, writeWord_cycle sync _ data⟩

theorem timerCountR (sync : Bool) : Statement (.timerCountR sync) := ⟨_, rfl, rfl, readWord_cycle sync _⟩

theorem timerResetW (sync : Bool) (data : Byte) : Statement (.timerResetW sync data) :=
  ⟨_, rfl, rfl, writeWord_cycle sync _ data⟩

theorem timerResetR (sync : Bool) : Statement (.timerResetR sync) := ⟨_, rfl, rfl, readWord_cycle sync _⟩

theorem timerTrigW (sync : Bool) (data : Byte) : Statement (.timerTrigW sync data) :=
  ⟨_, rfl, rfl, writeWord_cycle sync _ data⟩

theorem timerTrigR (sync : Bool) : Statement (.timerTrigR sync) := ⟨_, rfl, rfl, readWord_cycle sync _⟩

theorem timerPauseW (sync : Bool) (data : Byte) : Statement (.timerPauseW sync data) :=
  ⟨_, rfl, rfl, writeWord_cycle sync _ data⟩

theorem timerPauseR (sync : Bool) : Statement (.timerPauseR sync) := ⟨_, rfl, rfl, readWord_cycle sync _⟩

theorem timerContW (sync : Bool) (data : Byte) : Statement (.timerContW sync data) :=
  ⟨_, rfl, rfl, writeWord_cycle sync _ data⟩

theorem timerContR (sync : Bool) : Statement (.timerContR sync) := ⟨_, rfl, rfl, readWord_cycle sync _⟩

theorem diskInvalid (sync : Bool) (off : BitVec 5) (acc : Access) : Statement (.diskInvalid sync off acc) :=
  ⟨_, rfl, rfl, (accessWord_window sync _ acc).trans (by revert off; decide)⟩

theorem timerInvalid (sync : Bool) (off : BitVec 5) (acc : Access) : Statement (.timerInvalid sync off acc) :=
  ⟨_, rfl, rfl, (accessWord_window sync _ acc).trans (by revert off; decide)⟩

theorem memR (sync : Bool) (addr : Addr) : Statement (.memR sync addr) :=
  ⟨_, rfl, rfl, accessWord_memory sync addr .read⟩

theorem memW (sync : Bool) (addr : Addr) (data : Byte) : Statement (.memW sync addr data) :=
  ⟨_, rfl, rfl, (accessWord_memory sync addr (.write data)).trans (by simp only [reduceCtorEq, decide_false]; rfl)⟩

end Sys2Proof.Laws.EncodingFitsTable
end

