-- ==== Sys2Proof/Tests/Slice0.lean ====
section
/-! SUPPORT. Tests on fixed values, expected results from spec/opcode_table.json and `95_test_vectors.md`, and for every
statement of the certificate with hypotheses a witness that meets them together. -/

namespace Sys2Proof.Tests

open Sys2Proof.Machine

/-! ## Configurations and small states -/

/-- Variant A with the decided windows. -/
def configA : Config := { Config.reference with variant := .A, diskWindowLen := 5 }

/-- Variant B with both windows widened to 32 addresses. -/
def configWide : Config := { Config.reference with diskWindowLen := 32, timerWindowLen := 32 }

/-- Variant A with a disk window of 32 addresses (95_test_vectors.md section 2.2). -/
def configWideA : Config := { configA with diskWindowLen := 32 }

/-- After INIT, variant B: one event has been served. -/
def stateB : State := { State.reset with initOpen := false }

/-- After INIT, variant A. -/
def stateA : State := { stateB with cfg := configA, disk := { status := .ok, cmd := 0x00#8, param := [0x00#8, 0x00#8] } }

/-- Variant A, no store (program P5). -/
def stateClosed : State :=
  { stateA with cfg := { configA with storeOpen := false }, disk := { stateA.disk with status := .nok } }

/-- Variant A, a general store. -/
def stateGeneral : State := { stateA with cfg := { configA with storeKind := .general } }

/-- `s` with the given timer. -/
def timed (ticks : Count) (target : Byte) (mode : TimerMode) (irq : Bool) (s : State) : State :=
  { s with timer := { ticks := ticks, target := target, mode := mode, irq := irq } }

/-- `s` with the given store. -/
def stored (pos : Nat) (bytes : Memory) (s : State) : State := { s with store := { pos := pos, bytes := bytes } }

/-- `s` with the given parameter registers. -/
def params (p : List Byte) (s : State) : State := { s with disk := { s.disk with param := p } }

/-- `s` with its address bus in DRIVE, which no event reaches. -/
def driven (s : State) : State := setAddressDirection .drive s

/-- The next state, if there is one. -/
def after : Result → Option State
  | .next t => some t
  | _ => none

/-- The fault, if there is one. -/
def faulted : Result → Option Fault
  | .fault f => some f
  | _ => none

/-- The refusal, if there is one. -/
def refusedAs : Result → Option Refusal
  | .refused r => some r
  | _ => none

/-- The timer after an event. -/
def timerAfter (i : Instr) (s : State) : Option (Int × Nat × TimerMode × Bool) :=
  (after (exec i s)).map fun t => (t.timer.ticks.toInt, t.timer.target.toNat, t.timer.mode, t.timer.irq)

/-- The byte a read cycle answers. -/
def answer (i : Instr) (s : State) : Option Byte := (after (exec i s)).map fun t => t.xcvr.dataOut

/-- The disk after an event. -/
def diskAfter (i : Instr) (s : State) : Option Disk := (after (exec i s)).map State.disk

/-- The store's position after an event. -/
def posAfter (i : Instr) (s : State) : Option Nat := (after (exec i s)).map fun t => t.store.pos

/-! ## Decoding (spec/opcode_table.json; 95_test_vectors.md section 2.6) -/

theorem test_decode_control :
    decode configA 0x8000000#28 = .init ∧ decode configA 0x4000000#28 = .tick ∧ decode configA 0x7FFFFFF#28 = .tick ∧
    decode configA 0xC000000#28 = .reservedKind ∧ decode configA 0xFFFFFFF#28 = .reservedKind := by decide

theorem test_decode_command :
    decode configA 0x0FE6000#28 = .diskSelect false ∧ decode configA 0x0FE6001#28 = .diskSeek false ∧
    decode configA 0x2FE6001#28 = .diskSeek true ∧ decode configA 0x0FE6002#28 = .diskCmdReserved false 0x02#8 ∧
    decode configA 0x0FE60FF#28 = .diskCmdReserved false 0xFF#8 ∧
    decode configA 0x1FE60FF#28 = .diskCommandR false := by decide

theorem test_decode_params :
    decode configA 0x0FE6102#28 = .diskParam0W false 0x02#8 ∧ decode configA 0x1FE6100#28 = .diskParam0R false ∧
    decode configA 0x2FE6280#28 = .diskParam1W true 0x80#8 ∧ decode configA 0x1FE6200#28 = .diskParam1R false := by decide

theorem test_decode_variantA :
    decode configA 0x0FE63AA#28 = .diskDataWA false 0xAA#8 ∧ decode configA 0x1FE6300#28 = .diskDataRA false ∧
    decode configA 0x1FE6400#28 = .diskStatusRA false ∧ decode configA 0x0FE6400#28 = .diskStatusWA false 0x00#8 ∧
    decode configA 0x1FE6500#28 = .memR false 0xFE65#16 ∧ decode configA 0x1FE6600#28 = .memR false 0xFE66#16 := by decide

theorem test_decode_variantB :
    decode Config.reference 0x0FE63AA#28 = .diskParam2W false 0xAA#8 ∧
    decode Config.reference 0x1FE6300#28 = .diskParam2R false ∧
    decode Config.reference 0x0FE6455#28 = .diskParam3W false 0x55#8 ∧
    decode Config.reference 0x1FE6400#28 = .diskParam3R false ∧
    decode Config.reference 0x0FE65AA#28 = .diskDataWB false 0xAA#8 ∧
    decode Config.reference 0x1FE6500#28 = .diskDataRB false ∧
    decode Config.reference 0x1FE6600#28 = .diskStatusRB false ∧
    decode Config.reference 0x2FE6600#28 = .diskStatusWB true 0x00#8 := by decide

theorem test_decode_timer_writes :
    decode configA 0x0FE800A#28 = .timerTargetW false 0x0A#8 ∧ decode configA 0x0FE8199#28 = .timerCountW false 0x99#8 ∧
    decode configA 0x0FE8200#28 = .timerResetW false 0x00#8 ∧ decode configA 0x0FE83FF#28 = .timerTrigW false 0xFF#8 ∧
    decode configA 0x0FE8400#28 = .timerPauseW false 0x00#8 ∧ decode configA 0x0FE8500#28 = .timerContW false 0x00#8 := by
  decide

theorem test_decode_timer_reads :
    decode configA 0x1FE8000#28 = .timerTargetR false ∧ decode configA 0x3FE8100#28 = .timerCountR true ∧
    decode configA 0x1FE8200#28 = .timerResetR false ∧ decode configA 0x1FE8300#28 = .timerTrigR false ∧
    decode configA 0x1FE8400#28 = .timerPauseR false ∧ decode configA 0x1FE8500#28 = .timerContR false := by decide

theorem test_decode_invalid_offsets :
    decode configWide 0x0FE6733#28 = .diskInvalid false 7#5 (.write 0x33#8) ∧
    decode configWide 0x1FE7F00#28 = .diskInvalid false 31#5 .read ∧
    decode configWide 0x1FE8600#28 = .timerInvalid false 6#5 .read ∧
    decode configWide 0x2FE9F44#28 = .timerInvalid true 31#5 (.write 0x44#8) ∧
    decode configWideA 0x1FE6500#28 = .diskInvalid false 5#5 .read := by decide

theorem test_decode_memory :
    decode configA 0x00200EA#28 = .memW false 0x0200#16 0xEA#8 ∧ decode configA 0x3020000#28 = .memR true 0x0200#16 ∧
    decode configA 0x1FE8600#28 = .memR false 0xFE86#16 ∧ decode configA 0x0FFFF02#28 = .memW false 0xFFFF#16 0x02#8 := by
  decide

/-- R90, R91: every event has 28 bits; a wider word is refused by name. -/
theorem test_wide_word_refused :
    eventWordOf 0x10000000 = .error .tooWide ∧ eventWordOf 0xFFFFFFF = .ok 0xFFFFFFF#28 ∧
    decodeTableWord 32 0x18000000 = none ∧ decodeTableWord 32 0x8000000 = some .init := by decide

theorem test_encode :
    encode (.diskDataWB true 0xAA#8) = 0x2FE65AA#28 ∧ encode (.timerInvalid false 31#5 .read) = 0x1FE9F00#28 ∧
    encode (.memR true 0x0200#16) = 0x3020000#28 := by decide

/-! ## Ill-formed events are named -/

theorem test_illFormed :
    illFormed Config.reference (.diskDataRA false) = some .otherVariant ∧
    illFormed configA (.diskParam2W false 0x00#8) = some .otherVariant ∧
    illFormed configA (.diskCmdReserved false 0x01#8) = some .definedCommand ∧
    illFormed configA (.diskInvalid false 5#5 .read) = some .offsetNotInvalid ∧
    illFormed configWide (.timerInvalid false 5#5 .read) = some .offsetNotInvalid ∧
    illFormed configA (.memR false 0xFE64#16) = some .peripheralAddress ∧
    illFormed configA (.memW false 0xFE85#16 0x00#8) = some .peripheralAddress := by decide

theorem test_wellFormed :
    WellFormed configA (.memR false 0xFE65#16) = true ∧ WellFormed configWide (.timerInvalid false 6#5 .read) = true ∧
    WellFormed configA (.diskCmdReserved false 0x02#8) = true := by decide

/-! ## Control events -/

/-- S7. -/
theorem test_init_timer : timerAfter .init State.reset = some (0, 255, .paused, false) := by decide

theorem test_second_init_refused : refusedAs (exec .init stateB) = some .secondInit := by decide

theorem test_reserved_kind_refused : refusedAs (step (State.reset.withFetchWord 28 0xC000000)) = some .notAnEvent := by
  decide

/-- S3, V24. -/
theorem test_tick_fires_and_wraps :
    timerAfter .tick (timed 9#16 10#8 .running false stateB) = some (0, 10, .triggered, true) ∧
    timerAfter .tick (timed 0x7FFF#16 0#8 .running false stateB) = some (-32768, 0, .running, false) := by decide

/-- V1, V4. -/
theorem test_tick_paused_and_triggered :
    timerAfter .tick (timed 0#16 255#8 .paused false stateB) = some (0, 255, .paused, false) ∧
    timerAfter .tick (timed 0#16 10#8 .triggered true stateB) = some (1, 10, .triggered, true) := by decide

/-! ## Timer registers -/

/-- V27. -/
theorem test_timer_target :
    timerAfter (.timerTargetW false 7#8) (timed 3#16 9#8 .triggered true stateB) = some (0, 7, .running, false) := by decide

/-- V7. -/
theorem test_timer_reset :
    timerAfter (.timerResetW false 0x00#8) (timed 2#16 10#8 .triggered true stateB) = some (0, 10, .running, false) := by
  decide

/-- V10. -/
theorem test_timer_trig :
    timerAfter (.timerTrigW false 0x00#8) (timed 3#16 10#8 .paused false stateB) = some (0, 10, .triggered, true) := by decide

/-- V8: the line stays asserted. -/
theorem test_timer_pause :
    timerAfter (.timerPauseW false 0x00#8) (timed 4#16 10#8 .triggered true stateB) = some (4, 10, .paused, true) := by decide

/-- V9. -/
theorem test_timer_cont :
    timerAfter (.timerContW false 0x00#8) (timed 2#16 10#8 .paused true stateB) = some (2, 10, .running, false) := by decide

/-- V21, V25. -/
theorem test_timer_count :
    answer (.timerCountR false) (timed 300#16 0#8 .triggered true stateB) = some 0x2C#8 ∧
    answer (.timerCountR false) (timed 0xFFFF#16 0#8 .running false stateB) = some 0xFF#8 := by decide

/-- V28. -/
theorem test_timer_unlisted :
    answer (.timerTargetR false) (timed 3#16 10#8 .running false stateB) = some 0x00#8 ∧
    timerAfter (.timerResetR false) (timed 3#16 10#8 .running false stateB) = some (3, 10, .running, false) ∧
    timerAfter (.timerTrigR false) (timed 3#16 10#8 .running false stateB) = some (3, 10, .running, false) ∧
    timerAfter (.timerPauseR false) (timed 3#16 10#8 .running false stateB) = some (3, 10, .running, false) := by decide

/-- V28. -/
theorem test_timer_unlisted_cont_count :
    timerAfter (.timerContR false) (timed 3#16 10#8 .triggered true stateB) = some (3, 10, .triggered, true) ∧
    timerAfter (.timerCountW false 0x55#8) (timed 3#16 10#8 .running false stateB) = some (3, 10, .running, false) := by decide

/-- R185. -/
theorem test_timer_invalid :
    answer (.timerInvalid false 6#5 .read) (timed 3#16 10#8 .running false stateB) = some 0x00#8 ∧
    timerAfter (.timerInvalid false 6#5 (.write 1#8)) (timed 3#16 10#8 .running false stateB) =
      some (3, 10, .running, false) := by decide

/-! ## Disk registers -/

/-- K12, S8. -/
theorem test_disk_select :
    diskAfter (.diskSelect false) (params [5#8, 0#8] stateA) = some { status := .ok, cmd := 0x00#8, param := [5#8, 0#8] } ∧
    (after (exec (.diskSelect false) stateClosed)).map (fun t => (t.disk.status, t.raised)) =
      some (.nok, some .deviceUnavailable) := by decide

/-- K5, K9: a seek to exactly `STORE_SIZE` succeeds. -/
theorem test_disk_seek :
    posAfter (.diskSeek false) (params [3#8, 0#8] stateA) = some 1536 ∧
    (diskAfter (.diskSeek false) (params [4#8, 0#8] stateA)).map Disk.status = some .ok := by decide

/-- K6, K24: rejected seeks; the offset is exact, above 2^32. -/
theorem test_disk_seek_rejected :
    (diskAfter (.diskSeek false) (params [0#8, 1#8] stateA)).map Disk.status = some .nok ∧
    (diskAfter (.diskSeek false) (params [0#8, 0#8, 0#8, 1#8] stateB)).map Disk.status = some .nok ∧
    seekOffset (params [0#8, 0#8, 0#8, 1#8] stateB) = 8589934592 := by decide

/-- K16, K17: the byte is latched and the position stays. -/
theorem test_disk_reserved :
    (diskAfter (.diskCmdReserved false 0xFF#8) stateA).map Disk.cmd = some 0xFF#8 ∧
    posAfter (.diskCmdReserved false 0x02#8) (stored 7 [] stateA) = some 7 := by decide

/-- K14, P5 event 5. -/
theorem test_disk_params :
    (diskAfter (.diskParam0W false 2#8) (params [1#8, 9#8] stateA)).map Disk.param = some [2#8, 9#8] ∧
    (diskAfter (.diskParam1W false 2#8) stateClosed).map Disk.param = some [0#8, 0#8] := by decide

/-- P3 events 4 and 5. -/
theorem test_disk_params_B :
    (diskAfter (.diskParam2W false 2#8) stateB).map Disk.param = some [0#8, 0#8, 2#8, 0#8] ∧
    (diskAfter (.diskParam3W false 3#8) stateB).map Disk.param = some [0#8, 0#8, 0#8, 3#8] := by decide

/-- K18, K25. -/
theorem test_disk_write_only :
    answer (.diskCommandR false) (params [2#8, 3#8] stateA) = some 0x00#8 ∧
    answer (.diskParam0R false) (params [2#8, 3#8] stateA) = some 0x00#8 ∧
    answer (.diskParam1R false) (params [2#8, 3#8] stateA) = some 0x00#8 ∧
    answer (.diskParam2R false) (stored 0 [(0, 5#8)] stateB) = some 0x00#8 ∧
    posAfter (.diskParam3R false) (stored 0 [(0, 5#8)] stateB) = some 0 := by decide

/-- S9, K8. -/
theorem test_disk_data_read :
    answer (.diskDataRA false) (stored 1024 [(1024, 0x14#8)] stateA) = some 0x14#8 ∧
    posAfter (.diskDataRB true) (stored 1024 [(1024, 0x14#8)] stateB) = some 1025 ∧
    posAfter (.diskDataRA false) (stored 2048 [] stateA) = some 2048 ∧
    (diskAfter (.diskDataRA false) (stored 2048 [] stateA)).map Disk.status = some .nok := by decide

/-- S10, K9, K20. -/
theorem test_disk_data_write :
    (after (exec (.diskDataWA false 0xAA#8) (stored 512 [(512, 0x0A#8)] stateA))).map State.store =
      some { pos := 513, bytes := [(512, 0xAA#8)] } ∧
    (after (exec (.diskDataWB false 0x33#8) stateB)).map State.store = some { pos := 1, bytes := [(0, 0x33#8)] } ∧
    (after (exec (.diskDataWA false 0xAA#8) (stored 2048 [] stateA))).map State.store = some { pos := 2048, bytes := [] } := by
  decide

/-- P5 events 2 and 9, K1, K19. -/
theorem test_disk_status :
    answer (.diskStatusRA false) stateA = some 0x00#8 ∧ answer (.diskStatusRA false) stateClosed = some 0x01#8 ∧
    answer (.diskStatusRB false) { stateB with disk := { stateB.disk with status := .nok } } = some 0x01#8 ∧
    (diskAfter (.diskStatusWA false 0x00#8) stateClosed).map Disk.status = some .nok ∧
    (diskAfter (.diskStatusWB false 0x01#8) stateB).map Disk.status = some .ok := by decide

/-- Section 2.2: the invalid offset of a widened window. -/
theorem test_disk_invalid :
    answer (.diskInvalid false 5#5 .read) { stateA with cfg := configWideA } = some 0x00#8 ∧
    diskAfter (.diskInvalid false 5#5 (.write 0x33#8)) { stateA with cfg := configWideA } = some stateA.disk := by decide

/-! ## Memory cycles and the step -/

/-- M2, M4. -/
theorem test_memory :
    answer (.memR true 0x0200#16) { stateB with mem := [(0x200, 0x5A#8)] } = some 0x5A#8 ∧
    (after (exec (.memW false 0x1234#16 0x77#8) { stateB with cfg := { Config.reference with memAddrBits := 12 } })).map
      State.mem = some [(0x234, 0x77#8)] := by decide

/-- M7: a read cycle in SAMPLE switches the data bus once, a second one does not. -/
theorem test_direction :
    (after (exec (.memR false 0#16) stateB)).map (fun t => (t.xcvr.dataDir, t.switches)) = some (.drive, 1) ∧
    (after (exec (.memR false 0#16) (setDataDirection .drive stateB))).map (fun t => (t.xcvr.dataDir, t.switches)) =
      some (.drive, 1) ∧
    directionChanges .sample [.memR false 0#16, .memR false 0#16, .memW false 0#16 0#8, .memW false 0#16 0#8,
      .memR false 0#16] = 3 := by decide

/-- The first instruction after reset is the word put there. -/
theorem test_withFetchWord :
    after (step (State.reset.withFetchWord 28 0x0FE8003)) = after (exec (.timerTargetW false 3#8) State.reset) ∧
    after (step State.reset) = some State.reset := by decide

/-! ## The physical lines (95_test_vectors.md section 2.1, wiring EXW) -/

/-- The line levels of a 32-bit line word. -/
def lineWord (n : Nat) : Lines := n.testBit

/-- T1, T2. -/
theorem test_gather :
    gatherAddr Wiring.exw (lineWord 0x0A00471B) = 0xFE80#16 ∧ gatherData Wiring.exw (lineWord 0x0A00471B) = 0x0A#8 ∧
    gatherAddr Wiring.exw (lineWord 0xFA00FF1B) = 0xFE80#16 ∧ gatherData Wiring.exw (lineWord 0xFA00FF1B) = 0x0A#8 := by
  decide

/-- The rows 0xA5 and 0xFE64 of the line table. -/
theorem test_scatter :
    (∀ n < 32, scatterData Wiring.exw 0xA5#8 (lineWord 0) n = lineWord 0x001000A4 n) ∧
    (∀ n < 32, scatterAddr Wiring.exw 0xFE64#16 (lineWord 0) n = lineWord 0x0984061B n) := by decide

/-- T2: the write of 0x0A to 0xFE80 as sensed on the lines. -/
theorem test_bus_cycle_on_lines :
    sensedWord Config.reference { rwLevel := false, syncLevel := false } (lineWord 0x0A00471B) = 0x0FE800A#28 := by decide

/-- T4. -/
theorem test_misuse :
    faulted (exec (.memR false 0#16) (driven stateB)) = some .transceiverMisuse ∧
    faulted (exec (.memW false 0#16 0#8) (driven stateB)) = some .transceiverMisuse := by decide

/-! ## Witnesses: states and operands that meet the hypotheses of the statements together -/

/-- A state far from reset that meets the invariant: the timer has fired, the disk has rejected a seek, an event waits. -/
def busy : State where
  cfg := configA
  xcvr := { addrDir := .sample, dataDir := .drive, dataOut := 0x5A#8 }
  timer := { ticks := 9#16, target := 10#8, mode := .triggered, irq := true }
  disk := { status := .nok, cmd := 0x01#8, param := [5#8, 0#8] }
  store := { pos := 2047, bytes := [(2047, 0x27#8)] }
  mem := [(0x200, 0xEA#8), (0xFFFF, 0x02#8)]
  events := [0x4000000#28]
  initOpen := false
  draws := 3
  bus := none
  raised := none
  switches := 4

/-- Whether an event has a next state. -/
def completes (i : Instr) (s : State) : Bool := (after (exec i s)).isSome

theorem witness_DecodeOfEncodeIsTheEvent :
    configWf configA = true ∧ WellFormed configA (.diskDataRA true) = true ∧ configWf configWide = true ∧
    WellFormed configWide (.diskInvalid true 31#5 (.write 0xFF#8)) = true := by decide

theorem witness_EncodeOfDecodeIsTheCanonicalWord : configWf configWide = true := by decide

theorem witness_DecoderFollowsTheOpcodeTable :
    configWf configA = true ∧ (tableRowOf configA 0x1FE6300#28).map TableRow.mnemonic = some "DISK_DATA.R" := by decide

theorem witness_DecodedEventsAreWellFormed : configWf configA = true ∧ configWf configWideA = true := by decide

theorem witness_AddressMapOfEachVariant :
    windowsDecided configA = true ∧ windowsDecided Config.reference = true ∧
    portDecode configA 0xFE5F#16 = .memory ∧ portDecode configA 0xFE60#16 = .peripheral .disk 0#8 ∧
    portDecode configA 0xFE64#16 = .peripheral .disk 4#8 ∧ portDecode configA 0xFE65#16 = .memory ∧
    portDecode Config.reference 0xFE66#16 = .peripheral .disk 6#8 ∧ portDecode Config.reference 0xFE67#16 = .memory ∧
    portDecode configA 0xFE80#16 = .peripheral .timer 0#8 ∧ portDecode configA 0xFE85#16 = .peripheral .timer 5#8 ∧
    portDecode configA 0xFE86#16 = .memory ∧ portDecode configA 0xFFFF#16 = .memory := by decide

theorem witness_WindowsNeverOverlap : configWide.diskWindowLen ≤ 32 ∧ configWide.timerWindowLen ≤ 32 := by decide

theorem witness_PortDecoderByBitSlices :
    configWide.diskWindowLen ≤ 32 ∧ configWide.timerWindowLen ≤ 32 ∧ portDecode configWide 0xFE7F#16 = .peripheral .disk 31#8 ∧
    portDecode configWide 0xFE9F#16 = .peripheral .timer 31#8 ∧ portDecode configWide 0xFEA0#16 = .memory := by decide

theorem witness_StepServesTheOldestEvent :
    busy.events = 0x4000000#28 :: [] ∧ decode busy.cfg 0x4000000#28 = .tick ∧ WellFormed busy.cfg .tick = true ∧
    stateB.events = [] := by decide

theorem witness_EveryStepKeepsTheInvariant : StateInv busy ∧ (after (step busy)).isSome = true := by
  refine ⟨⟨by decide, by decide, ⟨by decide, by decide, by decide⟩, ⟨by decide, by decide⟩, by decide, by decide, by decide,
    by decide⟩, by decide⟩

theorem witness_InitBuildsTheInitialState :
    State.reset.initOpen = true ∧ State.reset.cfg.storeOpen = true ∧
    ({ stateClosed with initOpen := true } : State).initOpen = true ∧ stateClosed.cfg.storeOpen = false := by decide

theorem witness_InitOnlyAsTheFirstEvent : stateB.initOpen = false ∧ completes .tick State.reset = true := by decide

theorem witness_ReservedKindIsRefused : kindOf 0xC000000#28 = 3#2 ∧ kindOf 0xFFFFFFF#28 = 3#2 := by decide

theorem witness_NoEventChangesTheParameters :
    completes .init State.reset = true ∧ completes .tick busy = true ∧ completes (.diskDataRA false) busy = true := by decide

theorem witness_TheDispatcherNeverBlocks :
    State.reset.xcvr.addrDir = .sample ∧ Instr.init ≠ .reservedKind ∧ State.reset.initOpen = true ∧
    busy.xcvr.addrDir = .sample ∧ Instr.tick ≠ .init := by decide

theorem witness_OpcodeFetchChangesNothing :
    kindOf 0x1FE6300#28 = 0#2 ∧ completes (decode busy.cfg 0x1FE6300#28) busy = true := by decide

theorem witness_TickCommutesWithOtherCycles :
    isBusCycle (.diskDataRA false) = true ∧ isTimerCycle (.diskDataRA false) = false ∧
    isBusCycle (.memW false 0#16 1#8) = true ∧ isTimerCycle (.memW false 0#16 1#8) = false := by decide

theorem witness_DiskErrorsTouchNothingElse :
    isDiskCycle (.memW false 0#16 1#8) = false ∧ Instr.memW false 0#16 1#8 ≠ .init ∧
    isDiskCycle .tick = false ∧ Instr.tick ≠ .init := by decide

theorem witness_LineRemapRoundTrips :
    Wiring.exw.addrLine.length = 16 ∧ Wiring.exw.dataLine.length = 8 ∧ Wiring.exw.addrLine.Nodup ∧
    Wiring.exw.dataLine.Nodup := by decide

theorem witness_DrivenByteReadsBack :
    wiringWf stateB.cfg.wiring = true ∧ stateB.cfg.wiring.dataLine[7]? = some 5 ∧ 16 ∉ stateB.cfg.wiring.dataLine := by decide

theorem witness_PhysicalCycleIsTheLogicalEvent :
    configWf busy.cfg = true ∧ kindOf 0x0FE800A#28 = 0#2 ∧ rwOf 0x0FE800A#28 = false ∧ kindOf 0x1FE6300#28 = 0#2 := by decide

theorem witness_BusCycleFaultsOnlyWhenTheAddressIsDriven :
    faulted (exec (.memR false 0#16) (driven busy)) = some .transceiverMisuse ∧ isBusCycle (.memR false 0#16) = true ∧
    (driven busy).xcvr.addrDir = .drive := by decide

theorem witness_SwitchesAreTheDirectionChanges :
    busy.xcvr.addrDir = .sample ∧
    ∀ i ∈ [Instr.memR false 0#16, .tick, .memW false 0#16 1#8], isBusCycle i = true ∨ i = .tick := by decide

theorem witness_WhatTheLinesCarry :
    wiringWf busy.cfg.wiring = true ∧ completes (.memR false 0#16) busy = true ∧
    neededDirection (.memR false 0#16) = some .drive ∧ completes (.memW false 0#16 1#8) busy = true ∧
    neededDirection (.memW false 0#16 1#8) = some .sample := by decide

/-- The hypotheses of every register access: an admitted configuration, the address bus in SAMPLE. -/
theorem ready : configWf Config.reference = true ∧ configWf configA = true ∧ busy.xcvr.addrDir = .sample := by decide

theorem witness_TimerTargetWriteArmsTheTimer : configWf configA = true ∧ busy.xcvr.addrDir = .sample := ready.2
theorem witness_TimerResetWriteRestartsThePeriod : configWf configA = true ∧ busy.xcvr.addrDir = .sample := ready.2
theorem witness_TimerTrigWriteFires : configWf configA = true ∧ busy.xcvr.addrDir = .sample := ready.2
theorem witness_TimerPauseWriteFreezes : configWf configA = true ∧ busy.xcvr.addrDir = .sample := ready.2
theorem witness_TimerContWriteResumes : configWf configA = true ∧ busy.xcvr.addrDir = .sample := ready.2
theorem witness_TimerCountReadAnswersTheCount : configWf configA = true ∧ busy.xcvr.addrDir = .sample := ready.2
theorem witness_UnlistedTimerAccessesDoNothing : configWf configA = true ∧ busy.xcvr.addrDir = .sample := ready.2

/-- The first and the last offsets of the widened windows that hold no register. -/
theorem witness_InvalidOffsetsDoNothing :
    configWf configWide = true ∧ timerNReg ≤ (6#5).toNat ∧ (31#5).toNat < configWide.timerWindowLen ∧
    diskNReg configWide.variant ≤ (7#5).toNat ∧ (31#5).toNat < configWide.diskWindowLen ∧
    busy.xcvr.addrDir = .sample := by decide

theorem witness_UnlistedDiskAccessesDoNothing :
    configWf configA = true ∧ configA.variant = .A ∧ Config.reference.variant = .B ∧ busy.xcvr.addrDir = .sample ∧ (Instr.diskParam3R true, 0xFE64#16) ∈ [(Instr.diskCommandR true, 0xFE60#16),
      (.diskParam0R true, 0xFE61#16), (.diskParam1R true, 0xFE62#16), (.diskParam2R true, 0xFE63#16),
      (.diskParam3R true, 0xFE64#16)] := by decide

/-- A paused timer; the last count before the period ends; the one before it. -/
theorem witness_TickCountsAndFires :
    kindOf 0x7FFFFFF#28 = 1#2 ∧ (timed 3#16 10#8 .paused false stateB).timer.mode = .paused ∧
    (timed 9#16 10#8 .running false stateB).timer.mode ≠ .paused ∧
    ((10#8).setWidth 16).toInt ≤ (9#16 + 1#16).toInt ∧ (8#16 + 1#16).toInt < ((10#8).setWidth 16).toInt := by decide

/-- Targets 1 and 2: the first TICK ends a period, and does not. -/
theorem witness_PeriodicTriggersKeepTheirPhase :
    busy.xcvr.addrDir = .sample ∧ armsWith busy (.timerTargetW false 1#8) = some 1#8 ∧
    armsWith busy (.timerTrigW false 0#8) = some 10#8 ∧ 1 ≤ (1#8).toNat ∧
    (∀ i ∈ [Instr.timerContW false 0#8, .timerCountR true, .tick], keepsPhase i = true) ∧
    [Instr.timerContW false 0#8, .timerCountR true, .tick] = [Instr.timerContW false 0#8, .timerCountR true] ++ [.tick] ∧
    keepsPhase (.diskDataRA false) = true ∧ Instr.diskDataRA false ≠ .tick ∧
    [Instr.timerContW false 0#8, .timerCountR true, .tick].count Instr.tick % 1 = 0 ∧
    [Instr.timerContW false 0#8, .timerCountR true, .tick].count Instr.tick % 2 ≠ 0 := by decide

/-- The first and the last TICK that leave the counter negative. -/
theorem witness_ZeroTargetFiresAndWraps :
    stateB.xcvr.addrDir = .sample ∧ (timed 0x7FFF#16 0#8 .running false stateB).timer.target = 0#8 ∧
    (timed 0x7FFF#16 0#8 .running false stateB).timer.mode ≠ .paused ∧ (0x7FFF#16 + 1#16).toInt < 0 ∧
    (0xFFFE#16 + 1#16).toInt < 0 := by decide

theorem witness_WhatAssertsTheLine :
    completes .tick (timed 9#16 10#8 .running false stateB) = true ∧
    (timed 9#16 10#8 .running false stateB).timer.irq = false ∧
    completes (.timerTrigW false 0#8) stateB = true ∧ stateB.timer.irq = false := by decide

theorem witness_WhatDeassertsTheLine :
    completes (.timerContW false 0#8) busy = true ∧ completes (.timerPauseW false 0#8) busy = true ∧
    busy.timer.irq = true := by decide

theorem witness_SelectReportsAvailability :
    configWf configA = true ∧ busy.xcvr.addrDir = .sample ∧ busy.cfg.storeOpen = true ∧
    stateClosed.xcvr.addrDir = .sample ∧ stateClosed.cfg.storeOpen = false := by decide

/-- The last block the reference store accepts and the first it rejects. -/
theorem witness_SeekPositionsTheStore :
    configWf configA = true ∧ stateA.xcvr.addrDir = .sample ∧ stateClosed.cfg.storeOpen = false ∧
    stateA.cfg.storeOpen = true ∧
    seekSucceeds (blockNumber [4#8, 0#8] * 512) (params [4#8, 0#8] stateA) = true ∧
    seekSucceeds (blockNumber [5#8, 0#8] * 512) (params [5#8, 0#8] stateA) = false := by decide

theorem witness_ReservedCommandIsLatched :
    configWf configA = true ∧ (0x02#8 ≠ 0x00#8 ∧ 0x02#8 ≠ 0x01#8) ∧ (0xFF#8 ≠ 0x00#8 ∧ 0xFF#8 ≠ 0x01#8) ∧
    stateA.xcvr.addrDir = .sample ∧ stateA.cfg.storeOpen = true ∧ stateClosed.cfg.storeOpen = false := by decide

theorem witness_ParamWritesLatch :
    configWf Config.reference = true ∧ Config.reference.variant = .B ∧ stateB.xcvr.addrDir = .sample ∧
    (Instr.diskParam3W true 7#8, 3, 0xFE64#16) ∈ [(Instr.diskParam0W true 7#8, 0, 0xFE61#16),
      (.diskParam1W true 7#8, 1, 0xFE62#16), (.diskParam2W true 7#8, 2, 0xFE63#16), (.diskParam3W true 7#8, 3, 0xFE64#16)] ∧
    stateB.cfg.storeOpen = true ∧ 3 < stateB.disk.param.length ∧ stateClosed.cfg.storeOpen = false := by decide

/-- The last byte of the store, and the first position past it. -/
theorem witness_DataReadStreams :
    configWf configA = true ∧ configA.variant = .A ∧ Config.reference.variant = .B ∧ stateA.xcvr.addrDir = .sample ∧
    stateA.cfg.storeOpen = true ∧ readSucceeds (stored 2047 [] stateA) = true ∧
    readSucceeds (stored 2048 [] stateA) = false ∧ stateA.cfg.storeKind = .reference ∧
    stateClosed.cfg.storeOpen = false := by decide

theorem witness_DataWriteStreams :
    configWf configA = true ∧ stateA.xcvr.addrDir = .sample ∧ busy.store.bytes.wf = true ∧ stateA.cfg.storeOpen = true ∧
    writeSucceeds (stored 2047 [] stateA) = true ∧ writeSucceeds (stored 2048 [] stateA) = false ∧
    stateA.cfg.storeKind = .reference ∧ stateClosed.cfg.storeOpen = false := by decide

theorem witness_StatusReadAnswersTheStatus :
    stateClosed.xcvr.addrDir = .sample ∧ DiskInv stateClosed.cfg stateClosed.disk ∧ DiskInv stateA.cfg stateA.disk ∧
    stateClosed.cfg.storeOpen = false := by
  exact ⟨by decide, ⟨by decide, by decide⟩, ⟨by decide, by decide⟩, by decide⟩

theorem witness_UnavailableDiskRejectsEverything :
    stateClosed.xcvr.addrDir = .sample ∧ stateClosed.cfg.storeOpen = false ∧ stateClosed.disk.status = .nok ∧
    isDiskCycle (.diskSeek false) = true ∧ isDiskCycle (.diskStatusRA false) = true ∧
    neededDirection (.diskStatusRA false) = some .drive := by decide

/-- A store that ends where the run ends. -/
theorem witness_DataAccessesStreamFromTheBlock :
    let s := params [1#8, 0#8] { stateA with cfg := { configA with storeSize := 514 } }
    s.xcvr.addrDir = .sample ∧ s.cfg.storeOpen = true ∧ s.cfg.storeKind = .reference ∧ s.cfg.storeWritable = true ∧
    s.store.bytes.wf = true ∧ (∀ i ∈ [Instr.diskDataWA false 0xAA#8, .diskDataRA false], isDiskData i = true) ∧
    blockNumber s.disk.param * 512 + 2 ≤ s.cfg.storeSize ∧ storedByte (.diskDataRA false) = none := by decide

theorem witness_OnlySeekAndDataTouchTheStore :
    posAfter (.diskSeek false) (params [1#8, 0#8] stateA) = some 512 ∧ stateA.store.pos = 0 ∧
    Instr.diskSeek false ≠ .init ∧
    (after (exec (.diskDataWA false 1#8) stateA)).map (fun t => t.store.bytes) = some [(0, 1#8)] ∧
    stateA.store.bytes = [] := by decide

theorem witness_ReferenceStoreAnswers :
    stateA.cfg.storeKind = .reference ∧ busy.store.bytes.wf = true ∧ 2048 ≤ stateA.cfg.storeSize ∧
    busy.store.pos < busy.cfg.storeSize ∧ stateA.cfg.storeSize ≤ (stored 2048 [] stateA).store.pos ∧
    stateA.cfg.storeWritable = true ∧ { configA with storeWritable := false }.storeWritable = false := by decide

theorem witness_MemoryReadAnswersTheCell :
    portDecode configA 0xFE65#16 = .memory ∧ portDecode configA 0xFE7F#16 = .memory ∧ stateA.xcvr.addrDir = .sample := by
  decide

theorem witness_MemoryWriteStoresOneByte :
    portDecode configA 0xFFFF#16 = .memory ∧ busy.xcvr.addrDir = .sample ∧ busy.mem.wf = true := by decide

/-- Two addresses of one cell, with another cell written between. -/
theorem witness_ReadAnswersTheLatestWrite :
    let c := { configA with memAddrBits := 12 }
    stateA.xcvr.addrDir = .sample ∧ stateA.mem.wf = true ∧ memIndex c 0x0234#16 = memIndex c 0x1234#16 ∧
    Instr.memW false 0x1235#16 0#8 ≠ .init ∧ Instr.memW false 0x1235#16 0#8 ≠ .reservedKind ∧
    memIndex c 0x1235#16 ≠ memIndex c 0x1234#16 := by decide

theorem witness_WindowsShadowMemory :
    let s : State := { busy with events := [0x0FE8199#28] }
    configWf s.cfg = true ∧ s.cfg.memAddrBits = 16 ∧ portDecode s.cfg 0xFE81#16 ≠ .memory ∧
    s.events = 0x0FE8199#28 :: [] ∧ decode s.cfg 0x0FE8199#28 ≠ .init ∧ (after (step s)).isSome = true := by decide

end Sys2Proof.Tests
end

/-! ## The step (R9, R69): one equation per shape of the queue of waiting events -/

section
namespace Sys2Proof.Machine

/-- With an event waiting, the oldest word is taken off the queue, decoded under the state's parameters and served. -/
theorem step_of_events_cons {s : State} {w : EventWord} {rest : List EventWord} (hq : s.events = w :: rest) :
    step s = exec (decode s.cfg w) { s with events := rest } := by
  simp only [step, hq]

/-- With no event waiting the block stays as it is (R345). -/
theorem step_of_events_nil {s : State} (hq : s.events = []) : step s = .next s := by
  simp only [step, hq]

/-- Settles O9, from the step's equation on either shape of the queue. The event's well-formedness is not used: `exec` is
total, and so serves whatever the word decodes to. -/
theorem stepServesTheOldestEvent : Obligations.StepServesTheOldestEvent := by
  refine ⟨fun s w rest i hq hdec _ => ?waiting, fun s hq => step_of_events_nil hq⟩
  case waiting =>
    subst hdec
    exact step_of_events_cons hq

end Sys2Proof.Machine
end

/-! ## What an event that has a next state does (R20, R260): INIT, TICK, or a bus cycle around its effect -/

section
namespace Sys2Proof.Machine

/-- A bus cycle leaves the parameters, the waiting events and the address bus direction alone (R20, R264). -/
theorem exec_sameInputs {i : Instr} (hb : isBusCycle i = true) {s t : State} (h : exec i s = .next t) :
    SameInputs s t := by
  obtain ⟨-, a, sync, d, target, hexec, hkeep⟩ | ⟨-, a, sync, target, hexec, hkeep⟩ := exec_busCycle i hb
  · rw [hexec] at h
    obtain ⟨-, rfl⟩ := busWrite_next h
    have k := hkeep (needDataDirection .sample (openEvent s))
    simp [SameInputs, k.cfg, k.events, k.xcvr, k.initOpen]
  · rw [hexec] at h
    obtain ⟨-, rfl⟩ := busRead_next h
    have k := hkeep (openEvent s)
    simp [SameInputs, k.cfg, k.events, k.xcvr, k.initOpen]

/-- What an event that has a next state can have done. -/
theorem exec_next_cases {i : Instr} {s t : State} (h : exec i s = .next t) :
    t = initialState s ∨ t = putTimer (tickTimer s.timer) (openEvent s) ∨
    (SameInputs s t ∧ SamePeripherals (effect i (openEvent s)) t) := by
  cases hb : isBusCycle i with
  | true => exact .inr (.inr ⟨exec_sameInputs hb h, exec_effect hb h⟩)
  | false =>
    cases i with
    | init =>
      change execInit s = .next t at h
      unfold execInit at h
      split at h
      · exact .inl (Host.Outcome.next.inj h).symm
      · cases h
    | tick => exact .inr (.inl (Host.Outcome.next.inj h).symm)
    | reservedKind => cases h
    | _ => cases hb

/-- Settles O16, over what an event can have done: INIT copies both fields, TICK replaces the timer alone, and a bus cycle
keeps its inputs. -/
theorem noEventChangesTheParameters : Obligations.NoEventChangesTheParameters := by
  intro i s t h
  obtain rfl | rfl | ⟨⟨hcfg, hevents, -⟩, -⟩ := exec_next_cases h
  · exact ⟨rfl, rfl⟩
  · exact ⟨rfl, rfl⟩
  · exact ⟨hcfg, hevents⟩

end Sys2Proof.Machine
end

/-! ## The timer's invariant (R30, as corrected by C2 and C3) -/

section
namespace Sys2Proof.Machine

/-- On counts below 2^15 the signed comparison of R177 is the comparison of naturals. -/
theorem periodElapsed_iff {t : Count} (h : t.toNat < 2 ^ 15) (target : Byte) :
    periodElapsed t target = true ↔ target.toNat ≤ t.toNat := by
  have htarget := target.isLt
  simp only [periodElapsed, targetCount, BitVec.sle, decide_eq_true_eq, BitVec.toInt_eq_toNat_cond,
    BitVec.toNat_setWidth]
  omega

/-- What TICK can do to the timer (R177). -/
theorem tickTimer_cases (t : Timer) :
    tickTimer t = t ∨
    (periodElapsed (t.ticks + 1#16) t.target = true ∧
      tickTimer t = assertIrq { t with ticks := t.ticks + 1#16 - targetCount t.target }) ∨
    (periodElapsed (t.ticks + 1#16) t.target = false ∧ tickTimer t = { t with ticks := t.ticks + 1#16 }) := by
  unfold tickTimer
  split
  · exact .inl rfl
  · cases periodElapsed (t.ticks + 1#16) t.target
    · exact .inr (.inr ⟨rfl, rfl⟩)
    · exact .inr (.inl ⟨rfl, rfl⟩)

/-- A timer that has just fired, whatever its mode and line were, has the invariant if its count is in bounds. -/
theorem timerInv_assertIrq {t : Timer} (h : 1 ≤ t.target.toNat → t.ticks.toNat < t.target.toNat) :
    TimerInv (assertIrq t) :=
  ⟨fun _ => rfl, nofun, h⟩

/-- A timer that has just been acknowledged, whatever its mode and line were, has the invariant if its count is in
bounds. -/
theorem timerInv_acknowledgeIrq {t : Timer} (h : 1 ≤ t.target.toNat → t.ticks.toNat < t.target.toNat) :
    TimerInv (acknowledgeIrq t) :=
  ⟨nofun, fun _ => rfl, h⟩

theorem timerInv_initialTimer : TimerInv initialTimer := ⟨nofun, nofun, by decide⟩

/-- TICK keeps the timer's invariant: a count below the target reaches at most the target, where it starts again at 0. -/
theorem tickTimer_keepsInv {t : Timer} (h : TimerInv t) : TimerInv (tickTimer t) := by
  have htarget := t.target.isLt
  have hcount : 1 ≤ t.target.toNat → (t.ticks + 1#16).toNat ≤ t.target.toNat := fun hpos => by
    have := h.bounded hpos
    rw [BitVec.toNat_add]
    exact (Nat.mod_le _ _).trans this
  obtain e | ⟨helapsed, e⟩ | ⟨hrunning, e⟩ := tickTimer_cases t <;> rw [e]
  · exact h
  · refine timerInv_assertIrq fun hpos => ?_
    have := hcount hpos
    rw [periodElapsed_iff (by omega)] at helapsed
    have restart : t.ticks + 1#16 = targetCount t.target :=
      BitVec.eq_of_toNat_eq (by simp only [targetCount, BitVec.toNat_setWidth]; omega)
    change (t.ticks + 1#16 - targetCount t.target).toNat < t.target.toNat
    rw [restart, BitVec.sub_self]
    exact hpos
  · refine ⟨h.triggered, h.running, fun hpos => ?_⟩
    have := hcount hpos
    rw [← Bool.not_eq_true, periodElapsed_iff (by omega)] at hrunning
    exact Nat.lt_of_not_le hrunning

/-- Every bus cycle keeps the timer's invariant (R171 to R176): a write that moves the count sets it to 0. -/
theorem timerEffect_keepsInv (i : Instr) {t : Timer} (h : TimerInv t) : TimerInv (timerEffect i t) := by
  cases i with
  | timerTargetW => exact timerInv_acknowledgeIrq id
  | timerResetW => exact timerInv_acknowledgeIrq id
  | timerTrigW => exact timerInv_assertIrq id
  | timerPauseW => exact ⟨nofun, nofun, h.bounded⟩
  | timerContW => exact timerInv_acknowledgeIrq h.bounded
  | _ => exact h

end Sys2Proof.Machine
end

/-! ## The invariant of the whole state -/

section
namespace Sys2Proof.Machine

/-- An admitted configuration's images are canonical and lie inside their spaces. -/
theorem configWf_images {c : Config} (h : configWf c = true) :
    c.memInit.wf = true ∧ c.memInit.below (2 ^ c.memAddrBits) = true ∧ c.storeInit.wf = true ∧
    (c.storeKind = .reference → c.storeInit.below c.storeSize = true) := by
  simp only [configWf, Bool.and_eq_true, Bool.or_eq_true, decide_eq_true_eq] at h
  obtain ⟨⟨⟨⟨⟨-, hmem⟩, hbelow⟩, -⟩, hstore⟩, hsize⟩ := h
  refine ⟨hmem, hbelow, hstore, fun href => hsize.resolve_left ?_⟩
  simp [href]

/-- A reference store accepts a byte only inside its size (R229). -/
theorem pos_lt_of_writeSucceeds {s : State} (href : s.cfg.storeKind = .reference) (h : writeSucceeds s = true) :
    s.store.pos < s.cfg.storeSize := by
  simp only [writeSucceeds, href, Bool.and_eq_true, decide_eq_true_eq] at h
  exact h.2

theorem memEffect_wf (c : Config) (i : Instr) {m : Memory} (h : m.wf = true) : (memEffect c i m).wf = true := by
  cases i with
  | memW => exact Memory.write_wf h _ _
  | _ => exact h

/-- A memory write stays inside the memory, because its index is the address's low `MEM_ADDR_BITS` bits (R62). -/
theorem memEffect_below (c : Config) (i : Instr) {m : Memory} (h : m.below (2 ^ c.memAddrBits) = true) :
    (memEffect c i m).below (2 ^ c.memAddrBits) = true := by
  cases i with
  | memW => exact Memory.write_below h (Nat.mod_lt _ (Nat.two_pow_pos _)) _
  | _ => exact h

/-- Every bus cycle keeps the disk's invariant (R33, R211). -/
theorem effect_keepsDiskInv (i : Instr) {s : State} (h : DiskInv s.cfg s.disk) : DiskInv s.cfg (effect i s).disk where
  unavailable hclosed := by
    obtain ⟨hdisk | hdisk, -⟩ := effect_unavailable i hclosed <;> rw [hdisk]
    exact h.unavailable hclosed
  params := (effect_paramLength i s).trans h.params

/-- Every bus cycle keeps the store's bytes in canonical form. -/
theorem effect_storeWf (i : Instr) {s : State} (h : s.store.bytes.wf = true) : (effect i s).store.bytes.wf = true := by
  obtain e | ⟨_, v, -, -, -, e⟩ := effect_bytes i s <;> rw [e]
  · exact h
  · exact Memory.write_wf h _ v

/-- Every bus cycle keeps a reference store's bytes inside its size (R229). -/
theorem effect_storeBelow (i : Instr) {s : State} (href : s.cfg.storeKind = .reference)
    (h : s.store.bytes.below s.cfg.storeSize = true) : (effect i s).store.bytes.below s.cfg.storeSize = true := by
  obtain e | ⟨_, v, -, -, haccepted, e⟩ := effect_bytes i s <;> rw [e]
  · exact h
  · exact Memory.write_below h (pos_lt_of_writeSucceeds href haccepted) v

/-- What a bus cycle does to the peripherals, the store and the memory keeps the invariant. -/
theorem StateInv.effect (i : Instr) {s : State} (h : StateInv s) : StateInv (effect i s) := by
  have frame := effect_keepsFrame i s
  constructor
  case cfg => rw [frame.cfg]; exact h.cfg
  case addrDir => rw [frame.xcvr]; exact h.addrDir
  case timer => rw [effect_timer]; exact timerEffect_keepsInv i h.timer
  case disk => rw [frame.cfg]; exact effect_keepsDiskInv i h.disk
  case memWf => rw [effect_mem]; exact memEffect_wf s.cfg i h.memWf
  case memBelow => rw [effect_mem, frame.cfg]; exact memEffect_below s.cfg i h.memBelow
  case storeWf => exact effect_storeWf i h.storeWf
  case storeBelow => rw [frame.cfg]; exact fun href => effect_storeBelow i href (h.storeBelow href)

/-- The invariant reads nothing but the parameters, the address bus direction, the peripherals, the memory and the store. -/
theorem StateInv.congr {s t : State} (h : StateInv s) (hcfg : t.cfg = s.cfg) (hdir : t.xcvr.addrDir = s.xcvr.addrDir)
    (htimer : t.timer = s.timer) (hdisk : t.disk = s.disk) (hmem : t.mem = s.mem) (hstore : t.store = s.store) :
    StateInv t := by
  constructor
  case cfg => rw [hcfg]; exact h.cfg
  case addrDir => rw [hdir]; exact h.addrDir
  case timer => rw [htimer]; exact h.timer
  case disk => rw [hcfg, hdisk]; exact h.disk
  case memWf => rw [hmem]; exact h.memWf
  case memBelow => rw [hmem, hcfg]; exact h.memBelow
  case storeWf => rw [hstore]; exact h.storeWf
  case storeBelow => rw [hcfg, hstore]; exact h.storeBelow

theorem StateInv.openEvent {s : State} (h : StateInv s) : StateInv (openEvent s) :=
  h.congr rfl rfl rfl rfl rfl rfl

theorem StateInv.withEvents {s : State} (h : StateInv s) (es : List EventWord) : StateInv { s with events := es } :=
  h.congr rfl rfl rfl rfl rfl rfl

theorem StateInv.putTimer {s : State} (h : StateInv s) {t : Timer} (ht : TimerInv t) : StateInv (putTimer t s) :=
  ⟨h.cfg, h.addrDir, ht, h.disk, h.memWf, h.memBelow, h.storeWf, h.storeBelow⟩

/-- INIT gives the disk of R230: NOK while the store is unavailable, every parameter register present. -/
theorem initialState_diskInv (s : State) : DiskInv s.cfg (initialState s).disk where
  unavailable hclosed := by simp [initialState, initialStatus, hclosed]
  params := List.length_replicate

/-- INIT gives the invariant (R330): its images are the configuration's, or the store's as before when it is unavailable. -/
theorem StateInv.initialState {s : State} (h : StateInv s) : StateInv (initialState s) := by
  obtain ⟨hmem, hmemBelow, hstore, hstoreBelow⟩ := configWf_images h.cfg
  constructor
  case cfg => exact h.cfg
  case addrDir => rfl
  case timer => exact timerInv_initialTimer
  case disk => exact initialState_diskInv s
  case memWf => exact hmem
  case memBelow => exact hmemBelow
  case storeWf =>
    unfold Machine.initialState
    split
    · exact hstore
    · exact h.storeWf
  case storeBelow =>
    unfold Machine.initialState
    split
    · exact hstoreBelow
    · exact h.storeBelow

/-- Every event keeps the invariant, from every state that has it. -/
theorem exec_keepsInv {i : Instr} {s t : State} (h : StateInv s) (hexec : exec i s = .next t) : StateInv t := by
  obtain rfl | rfl | ⟨⟨-, -, hdir, -⟩, same⟩ := exec_next_cases hexec
  · exact h.initialState
  · exact h.openEvent.putTimer (tickTimer_keepsInv h.timer)
  · refine (h.openEvent.effect i).congr same.cfg ?_ same.timer same.disk same.mem same.store
    rw [hdir, (effect_keepsFrame i (Machine.openEvent s)).xcvr, openEvent_xcvr]

/-- Settles O10: with an event waiting the step is that event's, and `exec_keepsInv` applies; with none the state stays. -/
theorem everyStepKeepsTheInvariant : Obligations.EveryStepKeepsTheInvariant := by
  intro s t h hstep
  cases hq : s.events with
  | nil =>
    rw [step_of_events_nil hq] at hstep
    exact Host.Outcome.next.inj hstep ▸ h
  | cons w rest =>
    rw [step_of_events_cons hq] at hstep
    exact exec_keepsInv (h.withEvents rest) hstep

end Sys2Proof.Machine
end

/-! ## Reset (R46) -/

section
namespace Sys2Proof.Machine

/-- The parameters reset is built with are admitted by R6. -/
theorem configWf_reference : configWf Config.reference = true := by decide

/-- Settles O11: reset has INIT's timer, an available store and empty images. -/
theorem resetMeetsTheInvariant : Obligations.ResetMeetsTheInvariant := by
  constructor
  case cfg => exact configWf_reference
  case addrDir => rfl
  case timer => exact timerInv_initialTimer
  case disk => exact ⟨nofun, rfl⟩
  case memWf => rfl
  case memBelow => rfl
  case storeWf => rfl
  case storeBelow => exact fun _ => rfl

/-- Settles O12: each value stands in the definition of reset. -/
theorem resetHoldsTheSpecsValues : Obligations.ResetHoldsTheSpecsValues :=
  ⟨rfl, rfl, rfl, rfl, rfl, rfl, rfl, rfl⟩

end Sys2Proof.Machine
end

/-! ## Bus cycles and runs of events (R69, R127): when they complete, and what they leave in memory -/

section
namespace Sys2Proof.Machine

/-- With the address bus in SAMPLE every bus cycle completes (R266). -/
theorem exec_completes {i : Instr} (hb : isBusCycle i = true) {s : State} (hdir : s.xcvr.addrDir = .sample) :
    ∃ t, exec i s = .next t := by
  obtain ⟨-, _, _, _, _, hexec, -⟩ | ⟨-, _, _, _, hexec, -⟩ := exec_busCycle i hb
  · exact ⟨_, (hexec s).trans (busWrite_eq hdir ..)⟩
  · exact ⟨_, (hexec s).trans (busRead_eq hdir ..)⟩

/-- With the address bus in DRIVE every bus cycle is a misuse of the transceiver (R127). -/
theorem exec_misuse {i : Instr} (hb : isBusCycle i = true) {s : State} (hdir : s.xcvr.addrDir = .drive) :
    exec i s = .fault .transceiverMisuse := by
  obtain ⟨-, _, _, _, _, hexec, -⟩ | ⟨-, _, _, _, hexec, -⟩ := exec_busCycle i hb
  · exact (hexec s).trans (busWrite_misuse hdir ..)
  · exact (hexec s).trans (busRead_misuse hdir ..)

/-- TICK counts on the opened event (R177). -/
theorem exec_tick (s : State) : exec .tick s = .next (putTimer (tickTimer s.timer) (openEvent s)) := rfl

/-- The events that are no bus cycle (R90). -/
theorem isBusCycle_cases (i : Instr) : i = .init ∨ i = .tick ∨ i = .reservedKind ∨ isBusCycle i = true := by
  cases i with
  | init => exact .inl rfl
  | tick => exact .inr (.inl rfl)
  | reservedKind => exact .inr (.inr (.inl rfl))
  | _ => exact .inr (.inr (.inr rfl))

/-- The memory after any event but INIT. -/
theorem exec_mem {i : Instr} (hinit : i ≠ .init) {s t : State} (h : exec i s = .next t) :
    t.mem = memEffect s.cfg i s.mem := by
  obtain rfl | rfl | rfl | hb := isBusCycle_cases i
  · exact absurd rfl hinit
  · exact Host.Outcome.next.inj h ▸ rfl
  · cases h
  · rw [(exec_effect hb h).mem, effect_mem]
    rfl

/-- Nothing but a write to an address of the cell changes a cell of the memory. -/
theorem memEffect_read_of_not_written {c : Config} {i : Instr} {k : Nat}
    (h : ∀ sync a d, i = .memW sync a d → memIndex c a ≠ k) (m : Memory) : (memEffect c i m).read k = m.read k := by
  cases i with
  | memW sync a d => exact Memory.read_write_other m (h sync a d rfl).symm d
  | _ => rfl

/-- What an event other than INIT and a reserved word keeps, if it writes no address of the cell `k`: the block goes on, ready
for the next cycle, with the same parameters and the same byte in the cell. -/
theorem exec_keepsCell {i : Instr} (hinit : i ≠ .init) (hreserved : i ≠ .reservedKind) {s : State} {k : Nat}
    (hdir : s.xcvr.addrDir = .sample) (hwrite : ∀ sync a d, i = .memW sync a d → memIndex s.cfg a ≠ k) :
    ∃ t, exec i s = .next t ∧ t.xcvr.addrDir = .sample ∧ t.cfg = s.cfg ∧ t.mem.read k = s.mem.read k := by
  obtain rfl | rfl | rfl | hb := isBusCycle_cases i
  · exact absurd rfl hinit
  · exact ⟨_, exec_tick s, hdir, rfl, rfl⟩
  · exact absurd rfl hreserved
  · obtain ⟨t, h⟩ := exec_completes hb hdir
    obtain ⟨hcfg, -, hsame, -⟩ := exec_sameInputs hb h
    refine ⟨t, h, hsame.trans hdir, hcfg, ?_⟩
    rw [exec_mem hinit h, memEffect_read_of_not_written hwrite]

/-- A run goes on with the next event where the one before has a next state. -/
theorem runEvents_cons_of_next {i : Instr} {s t : State} (h : exec i s = .next t) (l : List Instr) :
    runEvents (i :: l) s = runEvents l t := by
  simp only [runEvents, h]

/-- A run stops at the first fault. -/
theorem runEvents_cons_of_fault {i : Instr} {s : State} {f : Fault} (h : exec i s = .fault f) (l : List Instr) :
    runEvents (i :: l) s = .fault f := by
  simp only [runEvents, h]

/-- Such events in any number, followed by any run: the block reaches that run with the same parameters and the same byte in
the cell. -/
theorem runEvents_append_keepsCell {k : Nat} (l rest : List Instr) {s : State} (hdir : s.xcvr.addrDir = .sample)
    (h : ∀ i ∈ l, i ≠ .init ∧ i ≠ .reservedKind ∧ ∀ sync a d, i = .memW sync a d → memIndex s.cfg a ≠ k) :
    ∃ t, runEvents (l ++ rest) s = runEvents rest t ∧ t.xcvr.addrDir = .sample ∧ t.cfg = s.cfg ∧
      t.mem.read k = s.mem.read k := by
  induction l generalizing s with
  | nil => exact ⟨s, rfl, hdir, rfl, rfl⟩
  | cons i l ih =>
    obtain ⟨hinit, hreserved, hwrite⟩ := h i List.mem_cons_self
    obtain ⟨u, hu, hudir, hucfg, huread⟩ := exec_keepsCell hinit hreserved hdir hwrite
    obtain ⟨t, ht, htdir, htcfg, htread⟩ := ih hudir fun j hj => hucfg ▸ h j (List.mem_cons_of_mem i hj)
    exact ⟨t, (runEvents_cons_of_next hu _).trans ht, htdir, htcfg.trans hucfg, htread.trans huread⟩

/-- MEM.R drives the byte of the cell its address selects (R261). -/
theorem exec_memR_dataOut (sync : Bool) (a : Addr) {s : State} (hdir : s.xcvr.addrDir = .sample) :
    ∃ t, exec (.memR sync a) s = .next t ∧ t.xcvr.dataOut = s.mem.read (memIndex s.cfg a) :=
  ⟨_, busRead_eq hdir a sync _, rfl⟩

/-- Settles O55: the write leaves its byte in the cell, the events between keep the cell (`runEvents_append_keepsCell`), and
the read, by whichever address, selects the same cell. -/
theorem readAnswersTheLatestWrite : Obligations.ReadAnswersTheLatestWrite := by
  intro s sync sync' a b v l hdir hwf halias hbetween
  obtain ⟨u, hu⟩ := exec_completes (i := .memW sync a v) rfl hdir
  obtain ⟨hucfg, -, hudir, -⟩ := exec_sameInputs rfl hu
  have hwritten : u.mem.read (memIndex s.cfg a) = v := by
    rw [exec_mem (by simp) hu]
    exact Memory.read_write_same hwf _ v
  obtain ⟨r, hr, hrdir, hrcfg, hrread⟩ :=
    runEvents_append_keepsCell (k := memIndex s.cfg a) l [.memR sync' b] (hudir.trans hdir) (hucfg.symm ▸ hbetween)
  obtain ⟨t, ht, hanswer⟩ := exec_memR_dataOut sync' b hrdir
  refine ⟨t, ?_, ?_⟩
  · rw [runEvents_cons_of_next hu, hr, runEvents_cons_of_next ht]
    rfl
  · rw [hanswer, hrcfg, hucfg, halias, hrread, hwritten]

end Sys2Proof.Machine
end

/-! ## Which addresses a memory cycle has (R61, R63) -/

section
namespace Sys2Proof

/-! ### A register file answers with cycles of its own peripheral -/

theorem isDiskCycle_diskCommandInstr (sync : Bool) (acc : Access) :
    Machine.isDiskCycle (diskCommandInstr sync acc) = true := by
  cases acc with
  | read => rfl
  | write d => simp only [diskCommandInstr]; split_ifs <;> rfl

theorem isDiskCycle_diskParamInstr (k : Nat) (sync : Bool) (acc : Access) :
    Machine.isDiskCycle (diskParamInstr k sync acc) = true := by
  cases acc with
  | read => simp only [diskParamInstr]; split_ifs <;> rfl
  | write d => simp only [diskParamInstr]; split_ifs <;> rfl

theorem isDiskCycle_diskDataInstr (v : Variant) (sync : Bool) (acc : Access) :
    Machine.isDiskCycle (diskDataInstr v sync acc) = true := by
  cases v <;> cases acc <;> rfl

theorem isDiskCycle_diskStatusInstr (v : Variant) (sync : Bool) (acc : Access) :
    Machine.isDiskCycle (diskStatusInstr v sync acc) = true := by
  cases v <;> cases acc <;> rfl

/-- Every operation of the disk's register file is a cycle addressed to the disk. -/
theorem isDiskCycle_diskInstr (v : Variant) (off : Byte) (sync : Bool) (acc : Access) :
    Machine.isDiskCycle (diskInstr v off sync acc) = true := by
  unfold diskInstr
  split_ifs
  · exact isDiskCycle_diskCommandInstr sync acc
  · exact isDiskCycle_diskParamInstr _ sync acc
  · exact isDiskCycle_diskDataInstr v sync acc
  · exact isDiskCycle_diskStatusInstr v sync acc
  · rfl

/-- Every operation of the timer's register file is a cycle addressed to the timer. -/
theorem isTimerCycle_timerInstr (off : Byte) (sync : Bool) (acc : Access) :
    Machine.isTimerCycle (timerInstr off sync acc) = true := by
  unfold timerInstr
  split <;> rfl

/-- A word decodes to a memory write only at an address the Port Decoder gives to the memory (R63). -/
theorem portDecode_of_decode_memW {c : Config} {w : EventWord} {sync : Bool} {a : Addr} {d : Byte}
    (h : decode c w = .memW sync a d) : portDecode c a = .memory := by
  unfold decode at h
  split at h
  case h_1 =>
    unfold busInstr at h
    split at h
    case h_1 hport =>
      cases hacc : accessOf (rwOf w) (dataOf w) <;> rw [hacc] at h <;> cases h
      exact hport
    case h_2 off _ =>
      have hdisk := isDiskCycle_diskInstr c.variant off (syncOf w) (accessOf (rwOf w) (dataOf w))
      rw [h] at hdisk
      cases hdisk
    case h_3 off _ =>
      have htimer := isTimerCycle_timerInstr off (syncOf w) (accessOf (rwOf w) (dataOf w))
      rw [h] at htimer
      cases htimer
  all_goals cases h

end Sys2Proof

namespace Sys2Proof.Machine

/-- With a 64 KB image every address has a cell of its own (R62). -/
theorem memIndex_of_full {c : Config} (h : c.memAddrBits = 16) (a : Addr) : memIndex c a = a.toNat := by
  rw [memIndex, h, Nat.mod_eq_of_lt a.isLt]

/-- Settles O56: the step's event writes memory only at addresses the Port Decoder gives to the memory, and with a 64 KB image
none of those shares a cell with an address of a window. That the configuration is admitted is not used. -/
theorem windowsShadowMemory : Obligations.WindowsShadowMemory := by
  intro s t w rest a _ hfull hwindow hq hinit hstep
  rw [step_of_events_cons hq] at hstep
  rw [exec_mem hinit hstep]
  refine memEffect_read_of_not_written (fun sync x d hdec => ?_) s.mem
  have hport : portDecode s.cfg x = .memory := portDecode_of_decode_memW hdec
  rw [memIndex_of_full hfull]
  intro hsame
  exact hwindow (BitVec.eq_of_toNat_eq hsame ▸ hport)

/-- Settles O6: under the decided lengths (D3) each half-open window ends at the last register of its peripheral. -/
theorem addressMapOfEachVariant : Obligations.AddressMapOfEachVariant := by
  intro c a hdecided
  simp only [windowsDecided, Bool.and_eq_true, decide_eq_true_eq] at hdecided
  obtain ⟨hdisk, htimer⟩ := hdecided
  have timerWindow : a.toNat < 0xFE80 + timerNReg ↔ a.toNat ≤ 0xFE85 := Nat.lt_succ_iff
  cases hv : c.variant with
  | A =>
    have diskWindow : a.toNat < 0xFE60 + diskNReg .A ↔ a.toNat ≤ 0xFE64 := Nat.lt_succ_iff
    simp [portDecode, diskBase, timerBase, hdisk, htimer, hv, diskWindow, timerWindow]
  | B =>
    have diskWindow : a.toNat < 0xFE60 + diskNReg .B ↔ a.toNat ≤ 0xFE66 := Nat.lt_succ_iff
    simp [portDecode, diskBase, timerBase, hdisk, htimer, hv, diskWindow, timerWindow]

end Sys2Proof.Machine
end

/-! ## A TICK and a cycle that is no timer access (R70, D10) -/

section
namespace Sys2Proof.Machine

/-! ### The disk's and the memory's operations do not depend on the timer -/

theorem whenAvailable_putTimer {op : State → State} (u : Timer) (h : ∀ s, op (putTimer u s) = putTimer u (op s))
    (s : State) : whenAvailable op (putTimer u s) = putTimer u (whenAvailable op s) := by
  obtain ⟨ho, e⟩ | ⟨ho, e⟩ := whenAvailable_cases op s
  · rw [e, ← h s, whenAvailable_open ((congrArg Config.storeOpen (putTimer_cfg u s)).trans ho)]
  · rw [e, whenAvailable_closed ((congrArg Config.storeOpen (putTimer_cfg u s)).trans ho)]
    rfl

theorem selectDisk_putTimer (u : Timer) (s : State) : selectDisk (putTimer u s) = putTimer u (selectDisk s) := by
  refine whenAvailable_putTimer u (fun _ => ?_) s
  rfl

theorem seekDisk_putTimer (u : Timer) (s : State) : seekDisk (putTimer u s) = putTimer u (seekDisk s) := by
  refine whenAvailable_putTimer u (fun s => ?_) s
  have same : seekSucceeds (seekOffset (putTimer u s)) (latchCommand 0x01#8 (putTimer u s)) =
      seekSucceeds (seekOffset s) (latchCommand 0x01#8 s) := rfl
  cases h : seekSucceeds (seekOffset s) (latchCommand 0x01#8 s) <;> simp [storeSeek, same, h] <;> rfl

theorem reservedCommand_putTimer (v : Byte) (u : Timer) (s : State) :
    reservedCommand v (putTimer u s) = putTimer u (reservedCommand v s) := by
  refine whenAvailable_putTimer u (fun _ => ?_) s
  rfl

theorem latchParam_putTimer (k : Nat) (v : Byte) (u : Timer) (s : State) :
    latchParam k v (putTimer u s) = putTimer u (latchParam k v s) := by
  refine whenAvailable_putTimer u (fun _ => ?_) s
  rfl

theorem writeStoreByte_putTimer (v : Byte) (u : Timer) (s : State) :
    writeStoreByte v (putTimer u s) = putTimer u (writeStoreByte v s) := by
  refine whenAvailable_putTimer u (fun s => ?_) s
  have same : writeSucceeds (putTimer u s) = writeSucceeds s := rfl
  cases h : writeSucceeds s <;> simp [storeWrite, same, h] <;> rfl

theorem readStoreByte_putTimer (u : Timer) (s : State) :
    readStoreByte (putTimer u s) = ((readStoreByte s).1, putTimer u (readStoreByte s).2) := by
  have same : readSucceeds (putTimer u s) = readSucceeds s := rfl
  cases ho : s.cfg.storeOpen
  · simp [readStoreByte, ho]
    rfl
  · cases h : readSucceeds s <;> simp [readStoreByte, storeRead, same, h, ho] <;> rfl

theorem needDataDirection_putTimer (d : Direction) (u : Timer) (s : State) :
    needDataDirection d (putTimer u s) = putTimer u (needDataDirection d s) := by
  unfold needDataDirection
  rw [putTimer_xcvr]
  split <;> rfl

/-! ### A cycle that is no timer access does not depend on the timer -/

/-- A write cycle gives the same state around another timer, if its target operation does. -/
theorem busWrite_putTimer {a : Addr} {sync : Bool} {d : Byte} {target : Byte → State → State} {u : Timer}
    (htarget : ∀ s, target d (putTimer u s) = putTimer u (target d s)) {s t : State}
    (h : busWrite a sync d target s = .next t) : busWrite a sync d target (putTimer u s) = .next (putTimer u t) := by
  obtain ⟨hdir, rfl⟩ := busWrite_next h
  have opened : openEvent (putTimer u s) = putTimer u (openEvent s) := rfl
  rw [busWrite_eq (by simpa using hdir), opened, needDataDirection_putTimer, htarget]
  rfl

/-- A read cycle gives the same state and the same byte around another timer, if its target operation does. -/
theorem busRead_putTimer {a : Addr} {sync : Bool} {target : State → Byte × State} {u : Timer}
    (htarget : ∀ s, target (putTimer u s) = ((target s).1, putTimer u (target s).2)) {s t : State}
    (h : busRead a sync target s = .next t) : busRead a sync target (putTimer u s) = .next (putTimer u t) := by
  obtain ⟨hdir, rfl⟩ := busRead_next h
  have opened : openEvent (putTimer u s) = putTimer u (openEvent s) := rfl
  rw [busRead_eq (by simpa using hdir), opened, htarget, needDataDirection_putTimer]
  rfl

/-- A cycle that is no timer access gives the same state around another timer. -/
theorem exec_putTimer {i : Instr} (hb : isBusCycle i = true) (ht : isTimerCycle i = false) (u : Timer) {s t : State}
    (h : exec i s = .next t) : exec i (putTimer u s) = .next (putTimer u t) := by
  have keepsZero : ∀ s, zeroRead (putTimer u s) = ((zeroRead s).1, putTimer u (zeroRead s).2) := fun _ => rfl
  have keepsStatus : ∀ s, readStatus (putTimer u s) = ((readStatus s).1, putTimer u (readStatus s).2) := fun _ => rfl
  cases i with
  | init => cases hb
  | tick => cases hb
  | reservedKind => cases hb
  | diskSelect => exact busWrite_putTimer (selectDisk_putTimer u) h
  | diskSeek => exact busWrite_putTimer (seekDisk_putTimer u) h
  | diskCmdReserved => exact busWrite_putTimer (reservedCommand_putTimer _ u) h
  | diskParam0W => exact busWrite_putTimer (latchParam_putTimer _ _ u) h
  | diskParam1W => exact busWrite_putTimer (latchParam_putTimer _ _ u) h
  | diskParam2W => exact busWrite_putTimer (latchParam_putTimer _ _ u) h
  | diskParam3W => exact busWrite_putTimer (latchParam_putTimer _ _ u) h
  | diskDataWA => exact busWrite_putTimer (writeStoreByte_putTimer _ u) h
  | diskDataWB => exact busWrite_putTimer (writeStoreByte_putTimer _ u) h
  | diskStatusWA => exact busWrite_putTimer (fun _ => rfl) h
  | diskStatusWB => exact busWrite_putTimer (fun _ => rfl) h
  | diskDataRA => exact busRead_putTimer (readStoreByte_putTimer u) h
  | diskDataRB => exact busRead_putTimer (readStoreByte_putTimer u) h
  | diskStatusRA => exact busRead_putTimer keepsStatus h
  | diskStatusRB => exact busRead_putTimer keepsStatus h
  | diskCommandR => exact busRead_putTimer keepsZero h
  | diskParam0R => exact busRead_putTimer keepsZero h
  | diskParam1R => exact busRead_putTimer keepsZero h
  | diskParam2R => exact busRead_putTimer keepsZero h
  | diskParam3R => exact busRead_putTimer keepsZero h
  | diskInvalid sync off acc =>
    cases acc with
    | read => exact busRead_putTimer (a := 0x7F3#11 ++ off) keepsZero h
    | write d => exact busWrite_putTimer (a := 0x7F3#11 ++ off) (target := ignoreWrite) (fun _ => rfl) h
  | memR => exact busRead_putTimer (fun _ => rfl) h
  | memW => exact busWrite_putTimer (fun _ => rfl) h
  | _ => cases ht

/-- A cycle that is no timer access leaves the timer. -/
theorem exec_timer_of_not_timerCycle {i : Instr} (hb : isBusCycle i = true) (ht : isTimerCycle i = false) {s t : State}
    (h : exec i s = .next t) : t.timer = s.timer := by
  have hsame : putTimer s.timer t = t := Host.Outcome.next.inj ((exec_putTimer hb ht s.timer h).symm.trans h)
  rw [← hsame, putTimer_timer]

/-- A bus cycle opens its event itself, so it finds nothing of the event before. -/
theorem exec_openEvent {i : Instr} (hb : isBusCycle i = true) (s : State) : exec i (openEvent s) = exec i s := by
  obtain ⟨-, _, _, _, _, hexec, -⟩ | ⟨-, _, _, _, hexec, -⟩ := exec_busCycle i hb
  · rw [hexec, hexec]
    rfl
  · rw [hexec, hexec]
    rfl

/-- Settles O19. With the address bus in DRIVE both orders stop at the cycle's misuse. Otherwise the cycle leaves the timer,
so TICK counts to the same timer in either order, and the cycle does the same around it. -/
theorem tickCommutesWithOtherCycles : Obligations.TickCommutesWithOtherCycles := by
  intro i s hb ht
  rw [runEvents_cons_of_next (exec_tick s)]
  cases hdir : s.xcvr.addrDir with
  | drive =>
    rw [runEvents_cons_of_fault (exec_misuse hb hdir), runEvents_cons_of_fault]
    exact exec_misuse hb (s := putTimer (tickTimer s.timer) (openEvent s)) hdir
  | sample =>
    obtain ⟨t, h⟩ := exec_completes hb hdir
    obtain ⟨-, -, -, hopen⟩ := exec_sameInputs hb h
    have htimer : t.timer = s.timer := exec_timer_of_not_timerCycle hb ht h
    have hafterTick : exec i (putTimer (tickTimer s.timer) (openEvent s)) = .next (putTimer (tickTimer s.timer) t) :=
      exec_putTimer hb ht _ ((exec_openEvent hb s).trans h)
    rw [runEvents_cons_of_next hafterTick, runEvents_cons_of_next h, runEvents_cons_of_next (exec_tick t), htimer]
    simp [runEvents, withoutRecords, putTimer, openEvent, hopen]

end Sys2Proof.Machine
end

/-! ## The fields of an event word (R90) -/

section
namespace Sys2Proof

@[simp] theorem kindOf_eventWord (k : BitVec 2) (s r : Bool) (a : Addr) (d : Byte) :
    kindOf (eventWord k s r a d) = k := by
  ext i hi
  simp only [kindOf, eventWord, BitVec.getElem_extractLsb', BitVec.getLsbD_append]
  grind

@[simp] theorem syncOf_eventWord (k : BitVec 2) (s r : Bool) (a : Addr) (d : Byte) :
    syncOf (eventWord k s r a d) = s := by
  simp only [syncOf, eventWord, BitVec.getLsbD_append]
  simp

@[simp] theorem rwOf_eventWord (k : BitVec 2) (s r : Bool) (a : Addr) (d : Byte) :
    rwOf (eventWord k s r a d) = r := by
  simp only [rwOf, eventWord, BitVec.getLsbD_append]
  simp

@[simp] theorem addrOf_eventWord (k : BitVec 2) (s r : Bool) (a : Addr) (d : Byte) :
    addrOf (eventWord k s r a d) = a := by
  ext i hi
  simp only [addrOf, eventWord, BitVec.getElem_extractLsb', BitVec.getLsbD_append]
  grind

@[simp] theorem dataOf_eventWord (k : BitVec 2) (s r : Bool) (a : Addr) (d : Byte) :
    dataOf (eventWord k s r a d) = d :=
  BitVec.extractLsb'_append_eq_right

/-- The five fields are the whole word. -/
theorem eventWord_fields (w : EventWord) :
    eventWord (kindOf w) (syncOf w) (rwOf w) (addrOf w) (dataOf w) = w := by
  simp only [eventWord, kindOf, syncOf, rwOf, addrOf, dataOf]
  ext i hi
  simp
  grind

theorem eventWord_inj {k k' : BitVec 2} {s s' r r' : Bool} {a a' : Addr} {d d' : Byte} :
    eventWord k s r a d = eventWord k' s' r' a' d' ↔ k = k' ∧ s = s' ∧ r = r' ∧ a = a' ∧ d = d' := by
  constructor
  · intro h
    exact ⟨by simpa using congrArg kindOf h, by simpa using congrArg syncOf h, by simpa using congrArg rwOf h,
      by simpa using congrArg addrOf h, by simpa using congrArg dataOf h⟩
  · rintro ⟨rfl, rfl, rfl, rfl, rfl⟩
    rfl

/-- A word's bits under a mask are compared field by field. -/
theorem eventWord_and_eq_iff (k : BitVec 2) (s rw : Bool) (a : Addr) (d : Byte) (mask pat : EventWord) :
    eventWord k s rw a d &&& mask = pat ↔
      k &&& kindOf mask = kindOf pat ∧ (s && syncOf mask) = syncOf pat ∧ (rw && rwOf mask) = rwOf pat ∧
      a &&& addrOf mask = addrOf pat ∧ d &&& dataOf mask = dataOf pat := by
  rw [← eventWord_inj, eventWord_fields, ← Laws.EncodingFitsTable.eventWord_and, eventWord_fields]

theorem kind_cases : ∀ k : BitVec 2, k = 0#2 ∨ k = 1#2 ∨ k = 2#2 ∨ k = 3#2 := by decide

/-- The register offset of a word is that of its address (R92). -/
theorem offsetOf_eq (w : EventWord) : offsetOf w = ((addrOf w).extractLsb' 0 5).toNat := by
  have slice : (addrOf w).extractLsb' 0 5 = w.extractLsb' 8 5 := by
    ext i hi
    simp [addrOf, Nat.lt_trans hi]
  rw [offsetOf, slice]

end Sys2Proof
end

/-! ## The Port Decoder by address bits (R92): bits 15:5 are the window, bits 4:0 the register offset -/

section
namespace Sys2Proof

theorem window_append_offset (a : Addr) : a.extractLsb' 5 11 ++ a.extractLsb' 0 5 = a :=
  BitVec.extractLsb'_append_extractLsb'

theorem toNat_eq_window_add_offset (a : Addr) :
    a.toNat = 32 * (a.extractLsb' 5 11).toNat + (a.extractLsb' 0 5).toNat := by
  have := a.isLt
  simp only [BitVec.extractLsb'_toNat, Nat.shiftRight_eq_div_pow]
  omega

/-- Both bases are multiples of 32, so a window of at most 32 addresses lies inside one value of the window bits. -/
theorem portDecode_eq_slices {c : Config} (hdisk : c.diskWindowLen ≤ 32) (htimer : c.timerWindowLen ≤ 32) (a : Addr) :
    portDecode c a =
      if a.extractLsb' 5 11 = 0x7F3#11 ∧ (a.extractLsb' 0 5).toNat < c.diskWindowLen then
        .peripheral .disk ((a.extractLsb' 0 5).setWidth 8)
      else if a.extractLsb' 5 11 = 0x7F4#11 ∧ (a.extractLsb' 0 5).toNat < c.timerWindowLen then
        .peripheral .timer ((a.extractLsb' 0 5).setWidth 8)
      else .memory := by
  have hoff := (a.extractLsb' 0 5).isLt
  have hsum := toNat_eq_window_add_offset a
  generalize a.extractLsb' 5 11 = window at *
  generalize a.extractLsb' 0 5 = off at *
  have inWindow {base len : Nat} {hi : BitVec 11} (hbase : base = 32 * hi.toNat) (hlen : len ≤ 32) :
      base ≤ a.toNat ∧ a.toNat < base + len ↔ window = hi ∧ off.toNat < len := by
    rw [BitVec.toNat_eq]
    omega
  have registerOffset {base : Nat} (hbase : base = 32 * window.toNat) :
      BitVec.ofNat 8 (a.toNat - base) = off.setWidth 8 := by
    apply BitVec.eq_of_toNat_eq
    simp [hsum, hbase]
  have diskBits : diskBase.toNat = 32 * (0x7F3#11).toNat := rfl
  have timerBits : timerBase.toNat = 32 * (0x7F4#11).toNat := rfl
  simp only [portDecode, inWindow diskBits hdisk, inWindow timerBits htimer]
  split_ifs with inDisk inTimer
  · rw [registerOffset (inDisk.1 ▸ diskBits)]
  · rw [registerOffset (inTimer.1 ▸ timerBits)]
  · rfl

theorem portDecode_diskWindow {c : Config} (hdisk : c.diskWindowLen ≤ 32) (htimer : c.timerWindowLen ≤ 32)
    {off : BitVec 5} (hoff : off.toNat < c.diskWindowLen) :
    portDecode c (0x7F3#11 ++ off) = .peripheral .disk (off.setWidth 8) := by
  rw [portDecode_eq_slices hdisk htimer, BitVec.extractLsb'_append_eq_left, BitVec.extractLsb'_append_eq_right,
    if_pos ⟨rfl, hoff⟩]

theorem portDecode_timerWindow {c : Config} (hdisk : c.diskWindowLen ≤ 32) (htimer : c.timerWindowLen ≤ 32)
    {off : BitVec 5} (hoff : off.toNat < c.timerWindowLen) :
    portDecode c (0x7F4#11 ++ off) = .peripheral .timer (off.setWidth 8) := by
  rw [portDecode_eq_slices hdisk htimer, BitVec.extractLsb'_append_eq_left, BitVec.extractLsb'_append_eq_right,
    if_neg (by simp), if_pos ⟨rfl, hoff⟩]

theorem portDecode_eq_memory_iff {c : Config} (hdisk : c.diskWindowLen ≤ 32) (htimer : c.timerWindowLen ≤ 32)
    {a : Addr} :
    portDecode c a = .memory ↔
      ¬ (a.extractLsb' 5 11 = 0x7F3#11 ∧ (a.extractLsb' 0 5).toNat < c.diskWindowLen) ∧
      ¬ (a.extractLsb' 5 11 = 0x7F4#11 ∧ (a.extractLsb' 0 5).toNat < c.timerWindowLen) := by
  rw [portDecode_eq_slices hdisk htimer]
  split_ifs with inDisk inTimer
  · exact iff_of_false nofun fun h => h.1 inDisk
  · exact iff_of_false nofun fun h => h.2 inTimer
  · exact iff_of_true rfl ⟨inDisk, inTimer⟩

/-- What the Port Decoder can answer, with the address each answer stands for. -/
theorem portDecode_cases {c : Config} (hdisk : c.diskWindowLen ≤ 32) (htimer : c.timerWindowLen ≤ 32) (a : Addr) :
    (∃ off : BitVec 5, a = 0x7F3#11 ++ off ∧ off.toNat < c.diskWindowLen ∧
      portDecode c a = .peripheral .disk (off.setWidth 8)) ∨
    (∃ off : BitVec 5, a = 0x7F4#11 ++ off ∧ off.toNat < c.timerWindowLen ∧
      portDecode c a = .peripheral .timer (off.setWidth 8)) ∨
    portDecode c a = .memory := by
  have hport := portDecode_eq_slices hdisk htimer a
  split_ifs at hport with inDisk inTimer
  · exact .inl ⟨_, by rw [← inDisk.1, window_append_offset], inDisk.2, hport⟩
  · exact .inr (.inl ⟨_, by rw [← inTimer.1, window_append_offset], inTimer.2, hport⟩)
  · exact .inr (.inr hport)

/-- The windows of an admitted configuration hold their registers and at most 32 addresses (R6). -/
theorem configWf_windows {c : Config} (hc : Machine.configWf c = true) :
    (diskNReg c.variant ≤ c.diskWindowLen ∧ c.diskWindowLen ≤ 32) ∧
    (timerNReg ≤ c.timerWindowLen ∧ c.timerWindowLen ≤ 32) := by
  simp only [Machine.configWf, Bool.and_eq_true, decide_eq_true_eq] at hc
  obtain ⟨⟨⟨⟨⟨⟨⟨hdisk, htimer⟩, -⟩, -⟩, -⟩, -⟩, -⟩, -⟩ := hc
  exact ⟨hdisk, htimer⟩

end Sys2Proof

namespace Sys2Proof.Machine

/-- Settles O8: the ranges of R151 and R152 are comparisons of the two slices. -/
theorem portDecoderByBitSlices : Obligations.PortDecoderByBitSlices :=
  fun _ hdisk htimer a => portDecode_eq_slices hdisk htimer a

end Sys2Proof.Machine
end

/-! ## What a word and a cycle decode to (R99) -/

section
namespace Sys2Proof

/-! ### One equation per kind -/

theorem decode_busCycle {w : EventWord} (h : kindOf w = 0#2) (c : Config) :
    decode c w = busInstr c (syncOf w) (addrOf w) (accessOf (rwOf w) (dataOf w)) := by
  simp [decode, h]

theorem decode_tick {w : EventWord} (h : kindOf w = 1#2) (c : Config) : decode c w = .tick := by
  simp [decode, h]

theorem decode_init {w : EventWord} (h : kindOf w = 2#2) (c : Config) : decode c w = .init := by
  simp [decode, h]

theorem decode_reservedKind {w : EventWord} (h : kindOf w = 3#2) (c : Config) : decode c w = .reservedKind := by
  simp [decode, h]

theorem decode_accessWord (c : Config) (sync : Bool) (a : Addr) (acc : Access) :
    decode c (accessWord sync a acc) = busInstr c sync a acc := by
  cases acc with
  | read => simp [accessWord, readWord, decode_busCycle, accessOf]
  | write d => simp [accessWord, writeWord, decode_busCycle, accessOf]

/-! ### One equation per answer of the Port Decoder -/

theorem busInstr_of_disk {c : Config} {a : Addr} {off : Byte} (h : portDecode c a = .peripheral .disk off) (sync : Bool)
    (acc : Access) : busInstr c sync a acc = diskInstr c.variant off sync acc := by
  simp only [busInstr, h]

theorem busInstr_of_timer {c : Config} {a : Addr} {off : Byte} (h : portDecode c a = .peripheral .timer off) (sync : Bool)
    (acc : Access) : busInstr c sync a acc = timerInstr off sync acc := by
  simp only [busInstr, h]

theorem busInstr_of_memory {c : Config} {a : Addr} (h : portDecode c a = .memory) (sync : Bool) (acc : Access) :
    busInstr c sync a acc = memInstr a sync acc := by
  simp only [busInstr, h]

/-! ### The register files by the offset (R170, R210) -/

theorem toNat_registerOffset (off : BitVec 5) : (off.setWidth 8 : Byte).toNat = off.toNat :=
  BitVec.toNat_setWidth_of_le (by decide)

theorem setWidth_registerOffset (off : BitVec 5) : (off.setWidth 8 : Byte).setWidth 5 = off := by
  rw [BitVec.setWidth_setWidth_of_le _ (by decide), BitVec.setWidth_eq]

theorem ofNat_eq_of_toNat_eq {off : BitVec 5} {n : Nat} (h : off.toNat = n) : BitVec.ofNat 5 n = off := by
  rw [← h, BitVec.ofNat_toNat, BitVec.setWidth_eq]

/-- What the disk's register file can answer. -/
theorem diskInstr_cases (v : Variant) (off : BitVec 5) :
    (off.toNat = 0 ∧ ∀ sync acc, diskInstr v (off.setWidth 8) sync acc = diskCommandInstr sync acc) ∨
    (∃ k < (diskConfig v).nparam, off.toNat = k + 1 ∧
      ∀ sync acc, diskInstr v (off.setWidth 8) sync acc = diskParamInstr k sync acc) ∨
    (off.toNat = (diskConfig v).dataOff ∧ ∀ sync acc, diskInstr v (off.setWidth 8) sync acc = diskDataInstr v sync acc) ∨
    (off.toNat = (diskConfig v).statusOff ∧
      ∀ sync acc, diskInstr v (off.setWidth 8) sync acc = diskStatusInstr v sync acc) ∨
    (diskNReg v ≤ off.toNat ∧ ∀ sync acc, diskInstr v (off.setWidth 8) sync acc = .diskInvalid sync off acc) := by
  simp only [diskInstr, toNat_registerOffset, setWidth_registerOffset]
  split_ifs with hcommand hparam hdata hstatus
  · exact .inl ⟨hcommand, fun _ _ => rfl⟩
  · exact .inr (.inl ⟨off.toNat - 1, by omega, by omega, fun _ _ => rfl⟩)
  · exact .inr (.inr (.inl ⟨hdata, fun _ _ => rfl⟩))
  · exact .inr (.inr (.inr (.inl ⟨hstatus, fun _ _ => rfl⟩)))
  · refine .inr (.inr (.inr (.inr ⟨?_, fun _ _ => rfl⟩)))
    cases v <;> simp only [diskConfig, diskNReg] at * <;> omega

theorem diskInstr_of_past {v : Variant} {off : BitVec 5} (h : diskNReg v ≤ off.toNat) (sync : Bool) (acc : Access) :
    diskInstr v (off.setWidth 8) sync acc = .diskInvalid sync off acc := by
  obtain ⟨hoff, -⟩ | ⟨k, hk, hoff, -⟩ | ⟨hoff, -⟩ | ⟨hoff, -⟩ | ⟨-, e⟩ := diskInstr_cases v off
  case inr.inr.inr.inr => exact e sync acc
  all_goals cases v <;> simp only [diskConfig, diskNReg] at * <;> omega

/-- The timer's offsets: six registers, and what lies past them. -/
theorem timerOffset_cases (off : BitVec 5) : off ∈ [0#5, 1#5, 2#5, 3#5, 4#5, 5#5] ∨ timerNReg ≤ off.toNat := by
  revert off
  decide

theorem timerInstr_of_past {off : BitVec 5} (h : timerNReg ≤ off.toNat) (sync : Bool) (acc : Access) :
    timerInstr (off.setWidth 8) sync acc = .timerInvalid sync off acc := by
  have hoff := toNat_registerOffset off
  unfold timerNReg at h
  unfold timerInstr
  split
  case h_13 => rw [setWidth_registerOffset]
  all_goals omega

/-! ### The cycles of an admitted configuration, by their address -/

theorem decode_diskWindow {c : Config} (hc : Machine.configWf c = true) {off : BitVec 5}
    (hoff : off.toNat < c.diskWindowLen) (sync : Bool) (acc : Access) :
    decode c (accessWord sync (0x7F3#11 ++ off) acc) = diskInstr c.variant (off.setWidth 8) sync acc := by
  obtain ⟨⟨-, hdisk⟩, -, htimer⟩ := configWf_windows hc
  rw [decode_accessWord, busInstr_of_disk (portDecode_diskWindow hdisk htimer hoff)]

theorem decode_timerWindow {c : Config} (hc : Machine.configWf c = true) {off : BitVec 5}
    (hoff : off.toNat < c.timerWindowLen) (sync : Bool) (acc : Access) :
    decode c (accessWord sync (0x7F4#11 ++ off) acc) = timerInstr (off.setWidth 8) sync acc := by
  obtain ⟨⟨-, hdisk⟩, -, htimer⟩ := configWf_windows hc
  rw [decode_accessWord, busInstr_of_timer (portDecode_timerWindow hdisk htimer hoff)]

theorem decode_memory {c : Config} {a : Addr} (h : portDecode c a = .memory) (sync : Bool) (acc : Access) :
    decode c (accessWord sync a acc) = memInstr a sync acc := by
  rw [decode_accessWord, busInstr_of_memory h]

/-- Every admitted disk window holds the registers of its variant. -/
theorem decode_diskRegister {c : Config} (hc : Machine.configWf c = true) {v : Variant} (hv : c.variant = v)
    (off : BitVec 5) (hoff : off.toNat < diskNReg v) (sync : Bool) (acc : Access) :
    decode c (accessWord sync (0x7F3#11 ++ off) acc) = diskInstr v (off.setWidth 8) sync acc := by
  subst hv
  exact decode_diskWindow hc (hoff.trans_le (configWf_windows hc).1.1) sync acc

/-- Every admitted timer window holds the timer's registers. -/
theorem decode_timerRegister {c : Config} (hc : Machine.configWf c = true) (off : BitVec 5)
    (hoff : off.toNat < timerNReg) (sync : Bool) (acc : Access) :
    decode c (accessWord sync (0x7F4#11 ++ off) acc) = timerInstr (off.setWidth 8) sync acc :=
  decode_timerWindow hc (hoff.trans_le (configWf_windows hc).2.1) sync acc

/-! ### The disk registers that both variants have at the same address (R92) -/

theorem decode_diskCommand {c : Config} (hc : Machine.configWf c = true) (sync : Bool) (acc : Access) :
    decode c (accessWord sync 0xFE60#16 acc) = diskCommandInstr sync acc :=
  decode_diskRegister hc rfl 0#5 (by cases c.variant <;> decide) sync acc

theorem decode_diskParam0 {c : Config} (hc : Machine.configWf c = true) (sync : Bool) (acc : Access) :
    decode c (accessWord sync 0xFE61#16 acc) = diskParamInstr 0 sync acc :=
  (decode_diskRegister hc rfl 1#5 (by cases c.variant <;> decide) sync acc).trans (by cases c.variant <;> rfl)

theorem decode_diskParam1 {c : Config} (hc : Machine.configWf c = true) (sync : Bool) (acc : Access) :
    decode c (accessWord sync 0xFE62#16 acc) = diskParamInstr 1 sync acc :=
  (decode_diskRegister hc rfl 2#5 (by cases c.variant <;> decide) sync acc).trans (by cases c.variant <;> rfl)

end Sys2Proof

namespace Sys2Proof.Machine

theorem exec_reservedKind (s : State) : exec .reservedKind s = .refused .notAnEvent := rfl

/-- Settles O15: the decoder's equation for kind 11, and the arm of the event it answers. -/
theorem reservedKindIsRefused : Obligations.ReservedKindIsRefused := by
  intro c w s h
  rw [decode_reservedKind h]
  exact ⟨rfl, exec_reservedKind s⟩

end Sys2Proof.Machine
end

/-! ## Decoding an event's word, and the events a word can decode to (R99, R100) -/

section
namespace Sys2Proof

/-! ### Which events a configuration has -/

theorem wellFormed_iff {c : Config} {i : Instr} : WellFormed c i = true ↔ illFormed c i = none := by
  simp [WellFormed]

theorem checkVariant_eq_none {c : Config} {v : Variant} : checkVariant c v = none ↔ c.variant = v := by
  simp [checkVariant]

theorem checkInvalidOffset_eq_none {nreg len : Nat} {off : BitVec 5} :
    checkInvalidOffset nreg len off = none ↔ nreg ≤ off.toNat ∧ off.toNat < len := by
  simp [checkInvalidOffset]

theorem checkMemoryAddress_eq_none {c : Config} {a : Addr} :
    checkMemoryAddress c a = none ↔ portDecode c a = .memory := by
  simp [checkMemoryAddress]

theorem illFormed_diskCmdReserved_eq_none {c : Config} {sync : Bool} {d : Byte} :
    illFormed c (.diskCmdReserved sync d) = none ↔ d ≠ 0x00#8 ∧ d ≠ 0x01#8 := by
  simp [illFormed]

/-! ### What the register files answer is an event of the configuration -/

theorem wellFormed_diskCommandInstr (c : Config) (sync : Bool) (acc : Access) :
    WellFormed c (diskCommandInstr sync acc) = true := by
  cases acc with
  | read => rfl
  | write d =>
    simp only [diskCommandInstr]
    split_ifs with hselect hseek
    · rfl
    · rfl
    · exact wellFormed_iff.2 (illFormed_diskCmdReserved_eq_none.2 ⟨hselect, hseek⟩)

/-- DISK_PARAM_2 and DISK_PARAM_3 are variant B's. -/
theorem paramIndex_cases {v : Variant} {k : Nat} (h : k < (diskConfig v).nparam) :
    k < 2 ∨ (2 ≤ k ∧ k < 4 ∧ v = .B) := by
  cases v <;> simp only [diskConfig] at h <;> simp <;> omega

theorem wellFormed_diskParamInstr {c : Config} {k : Nat} (hk : k < (diskConfig c.variant).nparam) (sync : Bool)
    (acc : Access) : WellFormed c (diskParamInstr k sync acc) = true := by
  rw [wellFormed_iff]
  obtain hboth | ⟨hlow, hhigh, hv⟩ := paramIndex_cases hk
  · interval_cases k <;> cases acc <;> rfl
  · interval_cases k <;> cases acc <;> exact checkVariant_eq_none.2 hv

theorem wellFormed_diskDataInstr (c : Config) (sync : Bool) (acc : Access) :
    WellFormed c (diskDataInstr c.variant sync acc) = true := by
  rw [wellFormed_iff]
  cases hv : c.variant <;> cases acc <;> exact checkVariant_eq_none.2 hv

theorem wellFormed_diskStatusInstr (c : Config) (sync : Bool) (acc : Access) :
    WellFormed c (diskStatusInstr c.variant sync acc) = true := by
  rw [wellFormed_iff]
  cases hv : c.variant <;> cases acc <;> exact checkVariant_eq_none.2 hv

theorem wellFormed_diskInstr {c : Config} {off : BitVec 5} (hoff : off.toNat < c.diskWindowLen) (sync : Bool)
    (acc : Access) : WellFormed c (diskInstr c.variant (off.setWidth 8) sync acc) = true := by
  obtain ⟨-, e⟩ | ⟨k, hk, -, e⟩ | ⟨-, e⟩ | ⟨-, e⟩ | ⟨hpast, e⟩ := diskInstr_cases c.variant off <;> rw [e]
  · exact wellFormed_diskCommandInstr c sync acc
  · exact wellFormed_diskParamInstr hk sync acc
  · exact wellFormed_diskDataInstr c sync acc
  · exact wellFormed_diskStatusInstr c sync acc
  · exact wellFormed_iff.2 (checkInvalidOffset_eq_none.2 ⟨hpast, hoff⟩)

theorem wellFormed_timerInstr {c : Config} {off : BitVec 5} (hoff : off.toNat < c.timerWindowLen) (sync : Bool)
    (acc : Access) : WellFormed c (timerInstr (off.setWidth 8) sync acc) = true := by
  obtain hregister | hpast := timerOffset_cases off
  · fin_cases hregister <;> cases acc <;> rfl
  · rw [timerInstr_of_past hpast]
    exact wellFormed_iff.2 (checkInvalidOffset_eq_none.2 ⟨hpast, hoff⟩)

theorem wellFormed_memInstr {c : Config} {a : Addr} (h : portDecode c a = .memory) (sync : Bool) (acc : Access) :
    WellFormed c (memInstr a sync acc) = true := by
  rw [wellFormed_iff]
  cases acc <;> exact checkMemoryAddress_eq_none.2 h

theorem wellFormed_busInstr {c : Config} (hc : Machine.configWf c = true) (sync : Bool) (a : Addr) (acc : Access) :
    WellFormed c (busInstr c sync a acc) = true := by
  obtain ⟨⟨-, hdisk⟩, -, htimer⟩ := configWf_windows hc
  obtain ⟨off, -, hoff, hport⟩ | ⟨off, -, hoff, hport⟩ | hport := portDecode_cases hdisk htimer a
  · rw [busInstr_of_disk hport]
    exact wellFormed_diskInstr hoff sync acc
  · rw [busInstr_of_timer hport]
    exact wellFormed_timerInstr hoff sync acc
  · rw [busInstr_of_memory hport]
    exact wellFormed_memInstr hport sync acc

end Sys2Proof

namespace Sys2Proof.Machine

/-- Settles O1: the word of a bus event is the cycle at its own address, and in a configuration that has the event the
decoder's equation for that address gives it back. -/
theorem decodeOfEncodeIsTheEvent : Obligations.DecodeOfEncodeIsTheEvent := by
  intro c i hc hwf
  rw [wellFormed_iff] at hwf
  cases i with
  | init => rfl
  | tick => rfl
  | reservedKind => rfl
  | diskSelect sync => exact decode_diskCommand hc sync (.write 0x00#8)
  | diskSeek sync => exact decode_diskCommand hc sync (.write 0x01#8)
  | diskCmdReserved sync d =>
    obtain ⟨hselect, hseek⟩ := illFormed_diskCmdReserved_eq_none.1 hwf
    refine (decode_diskCommand hc sync (.write d)).trans ?_
    rw [diskCommandInstr, if_neg hselect, if_neg hseek]
  | diskCommandR sync => exact decode_diskCommand hc sync .read
  | diskParam0W sync d => exact decode_diskParam0 hc sync (.write d)
  | diskParam0R sync => exact decode_diskParam0 hc sync .read
  | diskParam1W sync d => exact decode_diskParam1 hc sync (.write d)
  | diskParam1R sync => exact decode_diskParam1 hc sync .read
  | diskDataWA sync d => exact decode_diskRegister hc (checkVariant_eq_none.1 hwf) 3#5 (by decide) sync (.write d)
  | diskDataRA sync => exact decode_diskRegister hc (checkVariant_eq_none.1 hwf) 3#5 (by decide) sync .read
  | diskStatusRA sync => exact decode_diskRegister hc (checkVariant_eq_none.1 hwf) 4#5 (by decide) sync .read
  | diskStatusWA sync d => exact decode_diskRegister hc (checkVariant_eq_none.1 hwf) 4#5 (by decide) sync (.write d)
  | diskParam2W sync d => exact decode_diskRegister hc (checkVariant_eq_none.1 hwf) 3#5 (by decide) sync (.write d)
  | diskParam2R sync => exact decode_diskRegister hc (checkVariant_eq_none.1 hwf) 3#5 (by decide) sync .read
  | diskParam3W sync d => exact decode_diskRegister hc (checkVariant_eq_none.1 hwf) 4#5 (by decide) sync (.write d)
  | diskParam3R sync => exact decode_diskRegister hc (checkVariant_eq_none.1 hwf) 4#5 (by decide) sync .read
  | diskDataWB sync d => exact decode_diskRegister hc (checkVariant_eq_none.1 hwf) 5#5 (by decide) sync (.write d)
  | diskDataRB sync => exact decode_diskRegister hc (checkVariant_eq_none.1 hwf) 5#5 (by decide) sync .read
  | diskStatusRB sync => exact decode_diskRegister hc (checkVariant_eq_none.1 hwf) 6#5 (by decide) sync .read
  | diskStatusWB sync d => exact decode_diskRegister hc (checkVariant_eq_none.1 hwf) 6#5 (by decide) sync (.write d)
  | timerTargetW sync d => exact decode_timerRegister hc 0#5 (by decide) sync (.write d)
  | timerTargetR sync => exact decode_timerRegister hc 0#5 (by decide) sync .read
  | timerCountW sync d => exact decode_timerRegister hc 1#5 (by decide) sync (.write d)
  | timerCountR sync => exact decode_timerRegister hc 1#5 (by decide) sync .read
  | timerResetW sync d => exact decode_timerRegister hc 2#5 (by decide) sync (.write d)
  | timerResetR sync => exact decode_timerRegister hc 2#5 (by decide) sync .read
  | timerTrigW sync d => exact decode_timerRegister hc 3#5 (by decide) sync (.write d)
  | timerTrigR sync => exact decode_timerRegister hc 3#5 (by decide) sync .read
  | timerPauseW sync d => exact decode_timerRegister hc 4#5 (by decide) sync (.write d)
  | timerPauseR sync => exact decode_timerRegister hc 4#5 (by decide) sync .read
  | timerContW sync d => exact decode_timerRegister hc 5#5 (by decide) sync (.write d)
  | timerContR sync => exact decode_timerRegister hc 5#5 (by decide) sync .read
  | diskInvalid sync off acc =>
    obtain ⟨hpast, hoff⟩ := checkInvalidOffset_eq_none.1 hwf
    exact (decode_diskWindow hc hoff sync acc).trans (diskInstr_of_past hpast sync acc)
  | timerInvalid sync off acc =>
    obtain ⟨hpast, hoff⟩ := checkInvalidOffset_eq_none.1 hwf
    exact (decode_timerWindow hc hoff sync acc).trans (timerInstr_of_past hpast sync acc)
  | memR sync a => exact decode_memory (checkMemoryAddress_eq_none.1 hwf) sync .read
  | memW sync a d => exact decode_memory (checkMemoryAddress_eq_none.1 hwf) sync (.write d)

/-- Settles O4: a bus cycle's word selects an event of the configuration whichever way the Port Decoder answers; the other
kinds are no bus cycles, and every configuration has them. -/
theorem decodedEventsAreWellFormed : Obligations.DecodedEventsAreWellFormed := by
  intro c w hc
  obtain h | h | h | h := kind_cases (kindOf w)
  · rw [decode_busCycle h]
    exact wellFormed_busInstr hc _ _ _
  · rw [decode_tick h]
    rfl
  · rw [decode_init h]
    rfl
  · rw [decode_reservedKind h]
    rfl

end Sys2Proof.Machine
end

/-! ## Encoding what a word decodes to (R90) -/

section
namespace Sys2Proof

theorem encode_diskCommandInstr (sync : Bool) (acc : Access) :
    encode (diskCommandInstr sync acc) = accessWord sync 0xFE60#16 acc := by
  cases acc with
  | read => rfl
  | write d =>
    simp only [diskCommandInstr]
    split_ifs with hselect hseek
    · rw [hselect]; rfl
    · rw [hseek]; rfl
    · rfl

theorem encode_diskParamInstr {k : Nat} (hk : k < 4) (sync : Bool) (acc : Access) :
    encode (diskParamInstr k sync acc) = accessWord sync (0x7F3#11 ++ BitVec.ofNat 5 (k + 1)) acc := by
  interval_cases k <;> cases acc <;> rfl

theorem encode_diskDataInstr (v : Variant) (sync : Bool) (acc : Access) :
    encode (diskDataInstr v sync acc) = accessWord sync (0x7F3#11 ++ BitVec.ofNat 5 (diskConfig v).dataOff) acc := by
  cases v <;> cases acc <;> rfl

theorem encode_diskStatusInstr (v : Variant) (sync : Bool) (acc : Access) :
    encode (diskStatusInstr v sync acc) = accessWord sync (0x7F3#11 ++ BitVec.ofNat 5 (diskConfig v).statusOff) acc := by
  cases v <;> cases acc <;> rfl

theorem encode_diskInstr (v : Variant) (off : BitVec 5) (sync : Bool) (acc : Access) :
    encode (diskInstr v (off.setWidth 8) sync acc) = accessWord sync (0x7F3#11 ++ off) acc := by
  obtain ⟨hoff, e⟩ | ⟨k, hk, hoff, e⟩ | ⟨hoff, e⟩ | ⟨hoff, e⟩ | ⟨-, e⟩ := diskInstr_cases v off <;> rw [e]
  · rw [encode_diskCommandInstr, ← ofNat_eq_of_toNat_eq hoff]
    rfl
  · have hparam : k < 4 := by have := paramIndex_cases hk; omega
    rw [encode_diskParamInstr hparam, ofNat_eq_of_toNat_eq hoff]
  · rw [encode_diskDataInstr, ofNat_eq_of_toNat_eq hoff]
  · rw [encode_diskStatusInstr, ofNat_eq_of_toNat_eq hoff]
  · rfl

theorem encode_timerInstr (off : BitVec 5) (sync : Bool) (acc : Access) :
    encode (timerInstr (off.setWidth 8) sync acc) = accessWord sync (0x7F4#11 ++ off) acc := by
  obtain hregister | hpast := timerOffset_cases off
  · fin_cases hregister <;> cases acc <;> rfl
  · rw [timerInstr_of_past hpast]
    rfl

theorem encode_memInstr (a : Addr) (sync : Bool) (acc : Access) :
    encode (memInstr a sync acc) = accessWord sync a acc := by
  cases acc <;> rfl

/-- Whatever a cycle selects, its word is that cycle's. -/
theorem encode_busInstr {c : Config} (hc : Machine.configWf c = true) (sync : Bool) (a : Addr) (acc : Access) :
    encode (busInstr c sync a acc) = accessWord sync a acc := by
  obtain ⟨⟨-, hdisk⟩, -, htimer⟩ := configWf_windows hc
  obtain ⟨off, rfl, -, hport⟩ | ⟨off, rfl, -, hport⟩ | hport := portDecode_cases hdisk htimer a
  · rw [busInstr_of_disk hport, encode_diskInstr]
  · rw [busInstr_of_timer hport, encode_timerInstr]
  · rw [busInstr_of_memory hport, encode_memInstr]

end Sys2Proof

namespace Sys2Proof.Machine

/-- The canonical word of a bus cycle keeps everything but the data bits of a read. -/
theorem canonicalWord_busCycle {w : EventWord} (h : kindOf w = 0#2) :
    canonicalWord w = accessWord (syncOf w) (addrOf w) (accessOf (rwOf w) (dataOf w)) := by
  have hw := eventWord_fields w
  rw [h] at hw
  rw [canonicalWord, if_pos h]
  cases hrw : rwOf w <;> rw [hrw] at hw
  case false => exact hw.symm
  case true =>
    have hmask : 0xFFFFF00#28 = eventWord 3#2 true true (BitVec.allOnes 16) 0x00#8 := by decide
    rw [if_pos rfl, ← hw, hmask, Laws.EncodingFitsTable.eventWord_and, BitVec.and_allOnes]
    simp [accessOf, accessWord, readWord]

/-- The canonical word of any other kind keeps the kind alone. -/
theorem canonicalWord_control {w : EventWord} (h : kindOf w ≠ 0#2) :
    canonicalWord w = eventWord (kindOf w) false false 0x0000#16 0x00#8 := by
  have hmask : 0xC000000#28 = eventWord (BitVec.allOnes 2) false false 0x0000#16 0x00#8 := by decide
  rw [canonicalWord, if_neg h, hmask, ← eventWord_fields w, Laws.EncodingFitsTable.eventWord_and, BitVec.and_allOnes]
  simp

/-- Settles O2. -/
theorem encodeOfDecodeIsTheCanonicalWord : Obligations.EncodeOfDecodeIsTheCanonicalWord := by
  intro c w hc
  obtain h | h | h | h := kind_cases (kindOf w)
  · rw [decode_busCycle h, encode_busInstr hc, canonicalWord_busCycle h]
  · rw [decode_tick h, canonicalWord_control (by simp [h]), h]
    rfl
  · rw [decode_init h, canonicalWord_control (by simp [h]), h]
    rfl
  · rw [decode_reservedKind h, canonicalWord_control (by simp [h]), h]
    rfl

end Sys2Proof.Machine
end

/-! ## The first matching row of spec/opcode_table.json (R99) -/

section
namespace Sys2Proof

/-! ### When a row matches -/

/-- `TableRow.accepts` on the fields of a word. -/
theorem accepts_iff {c : Config} {r : TableRow} {k : BitVec 2} {s rw : Bool} {a : Addr} {d : Byte} :
    r.accepts c (eventWord k s rw a d) = true ↔
      (r.variant = none ∨ r.variant = some c.variant) ∧ r.condition.holds c (eventWord k s rw a d) = true ∧
      k &&& kindOf r.mask = kindOf r.pat ∧ (s && syncOf r.mask) = syncOf r.pat ∧ (rw && rwOf r.mask) = rwOf r.pat ∧
      a &&& addrOf r.mask = addrOf r.pat ∧ d &&& dataOf r.mask = dataOf r.pat := by
  rw [← eventWord_and_eq_iff, TableRow.accepts]
  cases r.variant <;> simp [and_assoc]

/-- A row's condition reads the address alone. -/
theorem holds_congr (c : Config) (cond : RowCondition) (k k' : BitVec 2) (s s' rw rw' : Bool) (a : Addr) (d d' : Byte) :
    cond.holds c (eventWord k s rw a d) = cond.holds c (eventWord k' s' rw' a d') := by
  cases cond <;> simp [RowCondition.holds, offsetOf_eq]

/-- An address under the mask of the window bits is a window's base exactly if it has that window's bits (R92). -/
theorem and_windowMask_eq_iff (a : Addr) (hi : BitVec 11) : a &&& 0xFFE0#16 = hi ++ 0#5 ↔ a.extractLsb' 5 11 = hi := by
  have masked : a &&& 0xFFE0#16 = a.extractLsb' 5 11 ++ 0#5 := by
    calc a &&& 0xFFE0#16
      _ = (a.extractLsb' 5 11 ++ a.extractLsb' 0 5) &&& (BitVec.allOnes 11 ++ 0#5) := by
        rw [window_append_offset]; rfl
      _ = a.extractLsb' 5 11 ++ 0#5 := by rw [BitVec.and_append, BitVec.and_allOnes, BitVec.and_zero]
  rw [masked]
  refine ⟨fun h => ?_, fun h => h ▸ rfl⟩
  simpa only [BitVec.extractLsb'_append_eq_left] using congrArg (BitVec.extractLsb' 5 11) h

/-- A row of another kind than a bus cycle matches by the kind alone. -/
theorem controlRow_accepts {c : Config} {r : TableRow} {kind : BitVec 2} (hvariant : r.variant = none)
    (hcondition : r.condition = .always) (hmask : r.mask = eventWord (BitVec.allOnes 2) false false 0x0000#16 0x00#8)
    (hpat : r.pat = eventWord kind false false 0x0000#16 0x00#8) (k : BitVec 2) (s rw : Bool) (a : Addr) (d : Byte) :
    r.accepts c (eventWord k s rw a d) = true ↔ k = kind := by
  rw [accepts_iff, hvariant, hcondition, hmask, hpat, kindOf_eventWord, BitVec.and_allOnes]
  simp [RowCondition.holds]

/-- An invalid-offset row matches a bus cycle in its window on the row's condition. -/
theorem windowRow_accepts {c : Config} {r : TableRow} {hi : BitVec 11} (hvariant : r.variant = none)
    (hmask : r.mask = eventWord 3#2 false false 0xFFE0#16 0x00#8)
    (hpat : r.pat = eventWord 0#2 false false (hi ++ 0#5) 0x00#8) (s rw : Bool) (a : Addr) (d : Byte) :
    r.accepts c (eventWord 0#2 s rw a d) = true ↔
      a.extractLsb' 5 11 = hi ∧ r.condition.holds c (eventWord 0#2 s rw a d) = true := by
  rw [accepts_iff, hvariant, hmask, hpat]
  simp [and_windowMask_eq_iff, and_comm]

/-- A memory row matches a bus cycle of its direction. -/
theorem memoryRow_accepts {c : Config} {r : TableRow} {read : Bool} (hvariant : r.variant = none)
    (hcondition : r.condition = .always) (hmask : r.mask = eventWord 3#2 false true 0x0000#16 0x00#8)
    (hpat : r.pat = eventWord 0#2 false read 0x0000#16 0x00#8) (s rw : Bool) (a : Addr) (d : Byte) :
    r.accepts c (eventWord 0#2 s rw a d) = true ↔ rw = read := by
  rw [accepts_iff, hvariant, hcondition, hmask, hpat]
  simp [RowCondition.holds]

/-! ### The bits no row tells apart: `sync`, and the data byte but for the codes of SELECT and SEEK (R90, R93) -/

/-- The two bytes are the same command: SELECT, SEEK, or neither. -/
def SameCommand (d d' : Byte) : Prop := (d = 0x00#8 ↔ d' = 0x00#8) ∧ (d = 0x01#8 ↔ d' = 0x01#8)

theorem exists_sameCommand (d : Byte) : ∃ d' ∈ [0x00#8, 0x01#8, 0x02#8], SameCommand d d' := by
  by_cases hselect : d = 0x00#8
  · exact ⟨0x00#8, by simp, by simp [SameCommand, hselect]⟩
  by_cases hseek : d = 0x01#8
  · exact ⟨0x01#8, by simp, by simp [SameCommand, hseek]⟩
  · exact ⟨0x02#8, by simp, by simp [SameCommand, hselect, hseek]⟩

theorem opcodeTable_masks : ∀ r ∈ opcodeTable, syncOf r.mask = false ∧
    (dataOf r.mask = 0x00#8 ∨ dataOf r.mask = BitVec.allOnes 8 ∧ (dataOf r.pat = 0x00#8 ∨ dataOf r.pat = 0x01#8)) := by
  decide

theorem accepts_congr {r : TableRow} (hr : r ∈ opcodeTable) {d d' : Byte} (hd : SameCommand d d') (c : Config)
    (k : BitVec 2) (s s' rw : Bool) (a : Addr) :
    r.accepts c (eventWord k s rw a d) = r.accepts c (eventWord k s' rw a d') := by
  obtain ⟨hsync, hdata⟩ := opcodeTable_masks r hr
  have data : d &&& dataOf r.mask = dataOf r.pat ↔ d' &&& dataOf r.mask = dataOf r.pat := by
    obtain hmask | ⟨hmask, hselect | hseek⟩ := hdata
    · rw [hmask, BitVec.and_zero, BitVec.and_zero]
    · rw [hmask, hselect, BitVec.and_allOnes, BitVec.and_allOnes]
      exact hd.1
    · rw [hmask, hseek, BitVec.and_allOnes, BitVec.and_allOnes]
      exact hd.2
  rw [Bool.eq_iff_iff, accepts_iff, accepts_iff, hsync, Bool.and_false, Bool.and_false, data,
    holds_congr c r.condition k k s s' rw rw a d d']

theorem tableRowOf_congr {d d' : Byte} (hd : SameCommand d d') (c : Config) (k : BitVec 2) (s s' rw : Bool) (a : Addr) :
    tableRowOf c (eventWord k s rw a d) = tableRowOf c (eventWord k s' rw a d') := by
  unfold tableRowOf
  exact List.find?_congr fun r hr => accepts_congr hr hd c k s s' rw a

/-! ### The name of an event says neither of them either -/

theorem mnemonic_diskCommandInstr_congr {d d' : Byte} (hd : SameCommand d d') (s s' rw : Bool) :
    mnemonic (diskCommandInstr s (accessOf rw d)) = mnemonic (diskCommandInstr s' (accessOf rw d')) := by
  cases rw with
  | true => rfl
  | false =>
    simp only [accessOf, diskCommandInstr, hd.1, hd.2, Bool.false_eq_true, if_false]
    split_ifs <;> rfl

theorem mnemonic_diskParamInstr_congr (k : Nat) (s s' rw : Bool) (d d' : Byte) :
    mnemonic (diskParamInstr k s (accessOf rw d)) = mnemonic (diskParamInstr k s' (accessOf rw d')) := by
  cases rw <;> simp only [accessOf, diskParamInstr, Bool.false_eq_true, if_false, if_true] <;> split_ifs <;> rfl

theorem mnemonic_diskInstr_congr (v : Variant) (off : BitVec 5) {d d' : Byte} (hd : SameCommand d d') (s s' rw : Bool) :
    mnemonic (diskInstr v (off.setWidth 8) s (accessOf rw d)) =
      mnemonic (diskInstr v (off.setWidth 8) s' (accessOf rw d')) := by
  obtain ⟨-, e⟩ | ⟨k, -, -, e⟩ | ⟨-, e⟩ | ⟨-, e⟩ | ⟨-, e⟩ := diskInstr_cases v off <;> rw [e, e]
  · exact mnemonic_diskCommandInstr_congr hd s s' rw
  · exact mnemonic_diskParamInstr_congr k s s' rw d d'
  · cases v <;> cases rw <;> rfl
  · cases v <;> cases rw <;> rfl
  · rfl

theorem mnemonic_timerInstr_congr (off : BitVec 5) (s s' rw : Bool) (d d' : Byte) :
    mnemonic (timerInstr (off.setWidth 8) s (accessOf rw d)) =
      mnemonic (timerInstr (off.setWidth 8) s' (accessOf rw d')) := by
  obtain hregister | hpast := timerOffset_cases off
  · fin_cases hregister <;> cases rw <;> rfl
  · rw [timerInstr_of_past hpast, timerInstr_of_past hpast]
    rfl

theorem mnemonic_memInstr (a : Addr) (sync rw : Bool) (d : Byte) :
    mnemonic (memInstr a sync (accessOf rw d)) = if rw then "MEM.R" else "MEM.W" := by
  cases rw <;> rfl

/-! ### The rows before the defaults: each other kind's row, and one row or more per register access -/

/-- The rows of `opcodeTable` before `defaultRows`. -/
def specificRows : List TableRow := controlRows ++ diskCommonRows ++ diskVariantRows ++ timerRows

/-- A configuration of the variant `v`: no specific row reads any other parameter. -/
def configOf (v : Variant) : Config := { Config.reference with variant := v }

theorem tableRowOf_eq_or (c : Config) (w : EventWord) :
    tableRowOf c w = (specificRows.find? (TableRow.accepts c w)).or (defaultRows.find? (TableRow.accepts c w)) := by
  unfold tableRowOf
  exact List.find?_append

theorem specificRows_find?_eq (c : Config) (w : EventWord) :
    specificRows.find? (TableRow.accepts c w) = specificRows.find? (TableRow.accepts (configOf c.variant) w) := by
  have always : ∀ r ∈ specificRows, r.condition = .always := by decide
  refine List.find?_congr fun r hr => ?_
  rw [TableRow.accepts, TableRow.accepts, always r hr]
  rfl

theorem tableRowOf_mnemonic_of_specific {c : Config} {w : EventWord} {name : String}
    (h : (specificRows.find? (TableRow.accepts (configOf c.variant) w)).map TableRow.mnemonic = some name) :
    (tableRowOf c w).map TableRow.mnemonic = some name := by
  obtain ⟨r, hfind, hname⟩ := Option.map_eq_some_iff.1 h
  rw [tableRowOf_eq_or, specificRows_find?_eq, hfind, Option.some_or, Option.map_some, hname]

/-- At a disk register's address the first row is that of the register file's answer. -/
theorem specificRows_diskRegister (v : Variant) : ∀ rw, ∀ off : BitVec 5, off.toNat < diskNReg v →
    ∀ d ∈ [0x00#8, 0x01#8, 0x02#8],
      (specificRows.find? (TableRow.accepts (configOf v) (eventWord 0#2 false rw (0x7F3#11 ++ off) d))).map
        TableRow.mnemonic = some (mnemonic (diskInstr v (off.setWidth 8) false (accessOf rw d))) := by
  cases v <;> decide

/-- At a timer register's address the first row is that of the register file's answer. -/
theorem specificRows_timerRegister (v : Variant) : ∀ rw, ∀ off : BitVec 5, off.toNat < timerNReg →
    ∀ d ∈ [0x00#8, 0x01#8, 0x02#8],
      (specificRows.find? (TableRow.accepts (configOf v) (eventWord 0#2 false rw (0x7F4#11 ++ off) d))).map
        TableRow.mnemonic = some (mnemonic (timerInstr (off.setWidth 8) false (accessOf rw d))) := by
  cases v <;> decide

/-- Whether a register stands at an address in the variant `v` (R92). -/
def isRegister (v : Variant) (a : Addr) : Bool :=
  decide (a.extractLsb' 5 11 = 0x7F3#11 ∧ (a.extractLsb' 0 5).toNat < diskNReg v ∨
    a.extractLsb' 5 11 = 0x7F4#11 ∧ (a.extractLsb' 0 5).toNat < timerNReg)

theorem isRegister_diskWindow (v : Variant) (off : BitVec 5) :
    isRegister v (0x7F3#11 ++ off) = decide (off.toNat < diskNReg v) := by
  rw [isRegister, BitVec.extractLsb'_append_eq_left, BitVec.extractLsb'_append_eq_right]
  simp

theorem isRegister_timerWindow (v : Variant) (off : BitVec 5) :
    isRegister v (0x7F4#11 ++ off) = decide (off.toNat < timerNReg) := by
  rw [isRegister, BitVec.extractLsb'_append_eq_left, BitVec.extractLsb'_append_eq_right]
  simp

/-- A specific row of the variant in force is of another kind than a bus cycle, or names one register's address. -/
theorem specificRows_address (v : Variant) : ∀ r ∈ specificRows, r.variant = none ∨ r.variant = some v →
    kindOf r.pat ≠ 0#2 ∨ addrOf r.mask = BitVec.allOnes 16 ∧ isRegister v (addrOf r.pat) = true := by
  cases v <;> decide

/-- At an address without a register only a default row can match a bus cycle. -/
theorem tableRowOf_of_not_isRegister {c : Config} {a : Addr} (h : isRegister c.variant a = false) (s rw : Bool)
    (d : Byte) :
    tableRowOf c (eventWord 0#2 s rw a d) = defaultRows.find? (TableRow.accepts c (eventWord 0#2 s rw a d)) := by
  have unmatched : specificRows.find? (TableRow.accepts c (eventWord 0#2 s rw a d)) = none := by
    refine List.find?_eq_none.2 fun r hr haccepts => ?_
    obtain ⟨hvariant, -, hkind, -, -, haddr, -⟩ := accepts_iff.1 haccepts
    obtain hcontrol | ⟨hmask, hregister⟩ := specificRows_address c.variant r hr hvariant
    · exact hcontrol (hkind.symm.trans BitVec.zero_and)
    · rw [hmask, BitVec.and_allOnes] at haddr
      rw [← haddr, h] at hregister
      cases hregister
  rw [tableRowOf_eq_or, unmatched, Option.none_or]

/-! ### The default rows -/

/-- The default row of a bus cycle: an invalid-offset row of its window, else the memory row of its direction. -/
theorem defaultRows_mnemonic (c : Config) (s rw : Bool) (a : Addr) (d : Byte) :
    (defaultRows.find? (TableRow.accepts c (eventWord 0#2 s rw a d))).map TableRow.mnemonic = some (
      if a.extractLsb' 5 11 = 0x7F3#11 ∧ diskNReg c.variant ≤ (a.extractLsb' 0 5).toNat ∧
        (a.extractLsb' 0 5).toNat < c.diskWindowLen then "DISK_INVALID"
      else if a.extractLsb' 5 11 = 0x7F4#11 ∧ timerNReg ≤ (a.extractLsb' 0 5).toNat ∧
        (a.extractLsb' 0 5).toNat < c.timerWindowLen then "TIMER_INVALID"
      else if rw then "MEM.R" else "MEM.W") := by
  have diskRow := windowRow_accepts (c := c) (r := ⟨"DISK_INVALID", none, .pastDisk, 0x0FE6000#28, 0xCFFE000#28⟩)
    (hi := 0x7F3#11) rfl rfl rfl s rw a d
  have timerRow := windowRow_accepts (c := c) (r := ⟨"TIMER_INVALID", none, .pastTimer, 0x0FE8000#28, 0xCFFE000#28⟩)
    (hi := 0x7F4#11) rfl rfl rfl s rw a d
  have readRow := memoryRow_accepts (c := c) (r := ⟨"MEM.R", none, .always, 0x1000000#28, 0xD000000#28⟩)
    (read := true) rfl rfl rfl rfl s rw a d
  have writeRow := memoryRow_accepts (c := c) (r := ⟨"MEM.W", none, .always, 0x0000000#28, 0xD000000#28⟩)
    (read := false) rfl rfl rfl rfl s rw a d
  simp only [RowCondition.holds, offsetOf_eq, addrOf_eventWord, decide_eq_true_eq] at diskRow timerRow
  unfold defaultRows
  split_ifs with hdisk htimer hread
  · rw [List.find?_cons_of_pos (diskRow.2 hdisk)]
    rfl
  · rw [List.find?_cons_of_neg (hdisk ∘ diskRow.1), List.find?_cons_of_pos (timerRow.2 htimer)]
    rfl
  · rw [List.find?_cons_of_neg (hdisk ∘ diskRow.1), List.find?_cons_of_neg (htimer ∘ timerRow.1),
      List.find?_cons_of_pos (readRow.2 hread)]
    rfl
  · rw [List.find?_cons_of_neg (hdisk ∘ diskRow.1), List.find?_cons_of_neg (htimer ∘ timerRow.1),
      List.find?_cons_of_neg (hread ∘ readRow.1), List.find?_cons_of_pos (writeRow.2 (by simpa using hread))]
    rfl

/-! ### The first row of every word -/

theorem tableRowOf_diskWindow {c : Config} {off : BitVec 5} (hoff : off.toNat < c.diskWindowLen) (s rw : Bool)
    (d : Byte) :
    (tableRowOf c (eventWord 0#2 s rw (0x7F3#11 ++ off) d)).map TableRow.mnemonic =
      some (mnemonic (diskInstr c.variant (off.setWidth 8) s (accessOf rw d))) := by
  by_cases hpast : diskNReg c.variant ≤ off.toNat
  · have hnone : isRegister c.variant (0x7F3#11 ++ off) = false := by
      rw [isRegister_diskWindow, decide_eq_false (Nat.not_lt.2 hpast)]
    rw [diskInstr_of_past hpast, tableRowOf_of_not_isRegister hnone, defaultRows_mnemonic,
      BitVec.extractLsb'_append_eq_left, BitVec.extractLsb'_append_eq_right, if_pos ⟨rfl, hpast, hoff⟩]
    rfl
  · obtain ⟨d', hd', hsame⟩ := exists_sameCommand d
    rw [tableRowOf_congr hsame c 0#2 s false, mnemonic_diskInstr_congr _ _ hsame s false]
    exact tableRowOf_mnemonic_of_specific (specificRows_diskRegister _ rw off (Nat.lt_of_not_le hpast) d' hd')

theorem tableRowOf_timerWindow {c : Config} {off : BitVec 5} (hoff : off.toNat < c.timerWindowLen) (s rw : Bool)
    (d : Byte) :
    (tableRowOf c (eventWord 0#2 s rw (0x7F4#11 ++ off) d)).map TableRow.mnemonic =
      some (mnemonic (timerInstr (off.setWidth 8) s (accessOf rw d))) := by
  by_cases hpast : timerNReg ≤ off.toNat
  · have hnone : isRegister c.variant (0x7F4#11 ++ off) = false := by
      rw [isRegister_timerWindow, decide_eq_false (Nat.not_lt.2 hpast)]
    rw [timerInstr_of_past hpast, tableRowOf_of_not_isRegister hnone, defaultRows_mnemonic,
      BitVec.extractLsb'_append_eq_left, BitVec.extractLsb'_append_eq_right, if_neg (by simp), if_pos ⟨rfl, hpast, hoff⟩]
    rfl
  · obtain ⟨d', hd', hsame⟩ := exists_sameCommand d
    rw [tableRowOf_congr hsame c 0#2 s false, mnemonic_timerInstr_congr _ s false rw d d']
    exact tableRowOf_mnemonic_of_specific (specificRows_timerRegister _ rw off (Nat.lt_of_not_le hpast) d' hd')

theorem tableRowOf_memory {c : Config} (hc : Machine.configWf c = true) {a : Addr} (hport : portDecode c a = .memory)
    (s rw : Bool) (d : Byte) :
    (tableRowOf c (eventWord 0#2 s rw a d)).map TableRow.mnemonic = some (mnemonic (memInstr a s (accessOf rw d))) := by
  obtain ⟨⟨hdiskReg, hdisk⟩, htimerReg, htimer⟩ := configWf_windows hc
  obtain ⟨notDisk, notTimer⟩ := (portDecode_eq_memory_iff hdisk htimer).1 hport
  have hnone : isRegister c.variant a = false := by
    rw [isRegister, decide_eq_false_iff_not, not_or]
    exact ⟨fun h => notDisk ⟨h.1, h.2.trans_le hdiskReg⟩, fun h => notTimer ⟨h.1, h.2.trans_le htimerReg⟩⟩
  rw [mnemonic_memInstr, tableRowOf_of_not_isRegister hnone, defaultRows_mnemonic,
    if_neg fun h => notDisk ⟨h.1, h.2.2⟩, if_neg fun h => notTimer ⟨h.1, h.2.2⟩]

theorem tableRowOf_busCycle {c : Config} (hc : Machine.configWf c = true) (s rw : Bool) (a : Addr) (d : Byte) :
    (tableRowOf c (eventWord 0#2 s rw a d)).map TableRow.mnemonic =
      some (mnemonic (busInstr c s a (accessOf rw d))) := by
  obtain ⟨⟨-, hdisk⟩, -, htimer⟩ := configWf_windows hc
  obtain ⟨off, rfl, hoff, hport⟩ | ⟨off, rfl, hoff, hport⟩ | hport := portDecode_cases hdisk htimer a
  · rw [busInstr_of_disk hport]
    exact tableRowOf_diskWindow hoff s rw d
  · rw [busInstr_of_timer hport]
    exact tableRowOf_timerWindow hoff s rw d
  · rw [busInstr_of_memory hport]
    exact tableRowOf_memory hc hport s rw d

/-- The row of a word that is no bus cycle's. -/
theorem tableRowOf_control {w : EventWord} (hk : kindOf w ≠ 0#2) (c : Config) :
    (tableRowOf c w).map TableRow.mnemonic =
      some (if kindOf w = 2#2 then "INIT" else if kindOf w = 1#2 then "TICK" else "RESERVED_KIND") := by
  obtain ⟨k, s, rw, a, d, rfl⟩ : ∃ k s rw a d, w = eventWord k s rw a d := ⟨_, _, _, _, _, (eventWord_fields w).symm⟩
  rw [kindOf_eventWord] at hk ⊢
  have initRow := controlRow_accepts (c := c) (r := ⟨"INIT", none, .always, 0x8000000#28, 0xC000000#28⟩)
    (kind := 2#2) rfl rfl rfl rfl k s rw a d
  have tickRow := controlRow_accepts (c := c) (r := ⟨"TICK", none, .always, 0x4000000#28, 0xC000000#28⟩)
    (kind := 1#2) rfl rfl rfl rfl k s rw a d
  have reservedRow := controlRow_accepts (c := c) (r := ⟨"RESERVED_KIND", none, .always, 0xC000000#28, 0xC000000#28⟩)
    (kind := 3#2) rfl rfl rfl rfl k s rw a d
  have controlFirst : opcodeTable = controlRows ++ (diskCommonRows ++ diskVariantRows ++ timerRows ++ defaultRows) := rfl
  rw [tableRowOf, controlFirst, controlRows, List.cons_append, List.cons_append, List.cons_append]
  split_ifs with hinit htick
  · rw [List.find?_cons_of_pos (initRow.2 hinit)]
    rfl
  · rw [List.find?_cons_of_neg (hinit ∘ initRow.1), List.find?_cons_of_pos (tickRow.2 htick)]
    rfl
  · have hreserved : k = 3#2 := (((kind_cases k).resolve_left hk).resolve_left htick).resolve_left hinit
    rw [List.find?_cons_of_neg (hinit ∘ initRow.1), List.find?_cons_of_neg (htick ∘ tickRow.1),
      List.find?_cons_of_pos (reservedRow.2 hreserved)]
    rfl

end Sys2Proof

namespace Sys2Proof.Machine

/-- Settles O3: a bus cycle's first row is found by the window its address lies in, any other word's by its kind. -/
theorem decoderFollowsTheOpcodeTable : Obligations.DecoderFollowsTheOpcodeTable := by
  intro c w hc
  obtain h | h | h | h := kind_cases (kindOf w)
  · have hrow := tableRowOf_busCycle hc (syncOf w) (rwOf w) (addrOf w) (dataOf w)
    rwa [← h, eventWord_fields, ← decode_busCycle h] at hrow
  · rw [decode_tick h, tableRowOf_control (by simp [h]), h]
    rfl
  · rw [decode_init h, tableRowOf_control (by simp [h]), h]
    rfl
  · rw [decode_reservedKind h, tableRowOf_control (by simp [h]), h]
    rfl

end Sys2Proof.Machine
end

/-! ## The block number and the byte offset (R94, R95) -/

section
namespace Sys2Proof.Machine

theorem blockNumber_two (p0 p1 : Byte) : blockNumber [p0, p1] = p0.toNat + p1.toNat * 256 := by
  simp only [blockNumber]
  omega

theorem blockNumber_four (p0 p1 p2 p3 : Byte) :
    blockNumber [p0, p1, p2, p3] = p0.toNat + p1.toNat * 256 + p2.toNat * 256 ^ 2 + p3.toNat * 256 ^ 3 := by
  simp only [blockNumber]
  omega

/-- `n` parameter bytes stay below 256 ^ n. -/
theorem blockNumber_lt (ps : List Byte) : blockNumber ps < 256 ^ ps.length := by
  induction ps with
  | nil => simp [blockNumber]
  | cons p ps ih =>
    have hp := p.isLt
    rw [blockNumber, List.length_cons, pow_succ]
    omega

theorem byteOffset_eq (v : Variant) (n : Nat) : byteOffset v n = n * 512 := by
  cases v <;> rfl

/-- Settles O52: the sums are the block number's equation unfolded, and the ranges follow from its bound. -/
theorem blockNumberIsLittleEndian : Obligations.BlockNumberIsLittleEndian := by
  have two (p0 p1 : Byte) : blockNumber [p0, p1] ≤ 65535 := by
    have : blockNumber [p0, p1] < 256 ^ 2 := blockNumber_lt _
    omega
  have four (p0 p1 p2 p3 : Byte) : blockNumber [p0, p1, p2, p3] ≤ 4294967295 := by
    have : blockNumber [p0, p1, p2, p3] < 256 ^ 4 := blockNumber_lt _
    omega
  refine ⟨fun p0 p1 => ⟨blockNumber_two p0 p1, two p0 p1⟩,
    fun p0 p1 p2 p3 => ⟨blockNumber_four p0 p1 p2 p3, four p0 p1 p2 p3⟩, byteOffset_eq, fun p0 p1 => ?_,
    fun p0 p1 p2 p3 => ?_⟩
  · have := two p0 p1
    rw [byteOffset_eq]
    omega
  · have := four p0 p1 p2 p3
    rw [byteOffset_eq]
    omega

end Sys2Proof.Machine
end

/-! ## The physical lines (R125): the line of bit `i` carries bit `i`, and the remap loses nothing (R126) -/

section
namespace Sys2Proof.Machine

/-! ### Gathering and scattering, bit by bit -/

theorem gather_lt (ns : List Nat) (L : Lines) : gather ns L < 2 ^ ns.length := by
  induction ns with
  | nil => simp [gather]
  | cons m ns ih =>
    have hbit := Bool.toNat_lt (L m)
    rw [gather, List.length_cons, pow_succ]
    omega

theorem testBit_gather {ns : List Nat} {i n : Nat} (h : ns[i]? = some n) (L : Lines) : (gather ns L).testBit i = L n := by
  induction ns generalizing i with
  | nil => cases h
  | cons m ns ih =>
    cases i with
    | zero =>
      obtain rfl : m = n := by simpa using h
      cases hm : L m <;> simp [gather, hm, Nat.testBit_zero]
    | succ i =>
      have hhalf : gather (m :: ns) L / 2 = gather ns L := by
        have hbit := Bool.toNat_lt (L m)
        rw [gather]
        omega
      rw [Nat.testBit_succ, hhalf]
      exact ih (by simpa using h)

theorem scatter_of_getElem? {ns : List Nat} (hns : ns.Nodup) {i n : Nat} (h : ns[i]? = some n) (v : Nat) (L : Lines) :
    scatter ns v L n = v.testBit i := by
  obtain ⟨hi, rfl⟩ := List.getElem?_eq_some_iff.1 h
  rw [scatter, if_pos (List.getElem_mem hi), hns.idxOf_getElem]

theorem scatter_of_notMem {ns : List Nat} {n : Nat} (h : n ∉ ns) (v : Nat) (L : Lines) : scatter ns v L n = L n :=
  if_neg h

/-- On distinct lines a value comes back: each line carries its own bit, and there are lines for all bits. -/
theorem gather_scatter {ns : List Nat} (hns : ns.Nodup) {v : Nat} (hv : v < 2 ^ ns.length) (L : Lines) :
    gather ns (scatter ns v L) = v := by
  refine Nat.eq_of_testBit_eq fun i => ?_
  obtain hi | hi := lt_or_ge i ns.length
  · have hline := List.getElem?_eq_getElem hi
    rw [testBit_gather hline, scatter_of_getElem? hns hline]
  · have hpow : 2 ^ ns.length ≤ 2 ^ i := Nat.pow_le_pow_right two_pos hi
    rw [Nat.testBit_lt_two_pow ((gather_lt ns _).trans_le hpow), Nat.testBit_lt_two_pow (hv.trans_le hpow)]

/-- The levels come back on any lines: a line carries the bit that was gathered from it. -/
theorem scatter_gather (ns : List Nat) (L : Lines) : scatter ns (gather ns L) L = L := by
  funext n
  by_cases hn : n ∈ ns
  · have hline : ns[ns.idxOf n]? = some n := List.getElem?_idxOf hn
    rw [scatter, if_pos hn, testBit_gather hline]
  · exact scatter_of_notMem hn _ L

/-! ### The data lines and the address lines -/

theorem toNat_gatherData {w : Wiring} (hlen : w.dataLine.length = 8) (L : Lines) :
    (gatherData w L).toNat = gather w.dataLine L := by
  have hlt := gather_lt w.dataLine L
  rw [hlen] at hlt
  rw [gatherData, BitVec.toNat_ofNat, Nat.mod_eq_of_lt hlt]

theorem toNat_gatherAddr {w : Wiring} (hlen : w.addrLine.length = 16) (L : Lines) :
    (gatherAddr w L).toNat = gather w.addrLine L := by
  have hlt := gather_lt w.addrLine L
  rw [hlen] at hlt
  rw [gatherAddr, BitVec.toNat_ofNat, Nat.mod_eq_of_lt hlt]

theorem gatherData_scatterData {w : Wiring} (hlen : w.dataLine.length = 8) (hw : w.dataLine.Nodup) (v : Byte)
    (L : Lines) : gatherData w (scatterData w v L) = v := by
  rw [gatherData, scatterData, gather_scatter hw (by rw [hlen]; exact v.isLt), BitVec.ofNat_toNat, BitVec.setWidth_eq]

theorem gatherAddr_scatterAddr {w : Wiring} (hlen : w.addrLine.length = 16) (hw : w.addrLine.Nodup) (a : Addr)
    (L : Lines) : gatherAddr w (scatterAddr w a L) = a := by
  rw [gatherAddr, scatterAddr, gather_scatter hw (by rw [hlen]; exact a.isLt), BitVec.ofNat_toNat, BitVec.setWidth_eq]

theorem scatterData_gatherData {w : Wiring} (hlen : w.dataLine.length = 8) (L : Lines) :
    scatterData w (gatherData w L) L = L := by
  rw [scatterData, toNat_gatherData hlen, scatter_gather]

theorem scatterAddr_gatherAddr {w : Wiring} (hlen : w.addrLine.length = 16) (L : Lines) :
    scatterAddr w (gatherAddr w L) L = L := by
  rw [scatterAddr, toNat_gatherAddr hlen, scatter_gather]

/-- Settles O21, one round trip after the other; only the value's round trips need distinct lines. -/
theorem lineRemapRoundTrips : Obligations.LineRemapRoundTrips := by
  intro w haddrLen hdataLen haddr hdata L
  exact ⟨fun v => gatherData_scatterData hdataLen hdata v L, fun a => gatherAddr_scatterAddr haddrLen haddr a L,
    scatterData_gatherData hdataLen L, scatterAddr_gatherAddr haddrLen L⟩

end Sys2Proof.Machine
end

/-! ## The transceiver's primitives (R120 to R124) and their misuse (R127, D22) -/

section
namespace Sys2Proof.Machine

/-- What an admitted wiring says about the two maps (R6, R98). -/
theorem wiringWf_lines {w : Wiring} (h : wiringWf w = true) :
    w.addrLine.length = 16 ∧ w.dataLine.length = 8 ∧ w.addrLine.Nodup ∧ w.dataLine.Nodup ∧
      w.addrLine.Disjoint w.dataLine := by
  simp only [wiringWf, Bool.and_eq_true, decide_eq_true_eq, List.nodup_append'] at h
  obtain ⟨⟨⟨haddrLen, hdataLen⟩, haddr, hdata, hdisjoint⟩, -⟩ := h
  exact ⟨haddrLen, hdataLen, haddr, hdata, hdisjoint⟩

theorem writeData_of_drive {s : State} (h : s.xcvr.dataDir = .drive) (v : Byte) : writeData v s = .ok (latchData v s) :=
  if_pos h

theorem writeData_of_sample {s : State} (h : s.xcvr.dataDir = .sample) (v : Byte) :
    writeData v s = .error .transceiverMisuse := by
  simp [writeData, h]

theorem readData_of_sample {s : State} (h : s.xcvr.dataDir = .sample) (L : Lines) :
    readData L s = .ok (gatherData s.cfg.wiring L) :=
  if_pos h

theorem readData_of_drive {s : State} (h : s.xcvr.dataDir = .drive) (L : Lines) :
    readData L s = .error .transceiverMisuse := by
  simp [readData, sampleData, h]

theorem drivenLines_of_drive {s : State} (h : s.xcvr.dataDir = .drive) (L : Lines) :
    drivenLines s L = scatterData s.cfg.wiring s.xcvr.dataOut L :=
  if_pos h

/-- Settles O23: in DRIVE the lines carry the latched byte's scatter, whose bits and whose gather are known. -/
theorem drivenByteReadsBack : Obligations.DrivenByteReadsBack := by
  intro s v L hw
  obtain ⟨-, hlen, -, hdata, -⟩ := wiringWf_lines hw
  have hlines : drivenLines (latchData v (setDataDirection .drive s)) L = scatterData s.cfg.wiring v L :=
    drivenLines_of_drive rfl L
  refine ⟨writeData_of_sample rfl v, latchData v (setDataDirection .drive s), writeData_of_drive rfl v, rfl,
    readData_of_drive rfl _, ?readsBack, fun i n hn => ?dataLine, fun n hn => ?otherLine⟩
  case readsBack =>
    rw [readData_of_sample rfl, hlines]
    exact congrArg _ (gatherData_scatterData hlen hdata v L)
  case dataLine =>
    rw [hlines, scatterData, scatter_of_getElem? hdata hn, BitVec.testBit_toNat]
  case otherLine =>
    rw [hlines, scatterData, scatter_of_notMem hn]

/-- INIT, TICK and the reserved kind use no transceiver operation, so only a bus cycle can fault. -/
theorem isBusCycle_of_exec_fault {i : Instr} {s : State} {f : Fault} (h : exec i s = .fault f) : isBusCycle i = true := by
  obtain rfl | rfl | rfl | hb := isBusCycle_cases i
  · change execInit s = .fault f at h
    unfold execInit at h
    split at h <;> cases h
  · cases h
  · cases h
  · exact hb

/-- Settles O24: what a bus cycle does is decided by the direction of the address bus. -/
theorem busCycleFaultsOnlyWhenTheAddressIsDriven : Obligations.BusCycleFaultsOnlyWhenTheAddressIsDriven := by
  intro i s f
  refine ⟨fun h => ?faults, ?misuse⟩
  case faults =>
    have hb := isBusCycle_of_exec_fault h
    cases hdir : s.xcvr.addrDir with
    | sample =>
      obtain ⟨t, ht⟩ := exec_completes hb hdir
      rw [ht] at h
      cases h
    | drive =>
      rw [exec_misuse hb hdir] at h
      cases h
      exact ⟨hb, rfl, rfl⟩
  case misuse =>
    rintro ⟨hb, hdir, rfl⟩
    exact exec_misuse hb hdir

end Sys2Proof.Machine
end

/-! ## The offsets of a widened window (R151, R152): the windows lie apart, and past the registers a cycle does nothing -/

section
namespace Sys2Proof.Machine

/-! ### Where the windows lie -/

/-- The bases are 32 apart, so a disk window of at most 32 addresses ends where the timer's begins. -/
theorem diskWindow_le_timerBase {len : Nat} (h : len ≤ 32) : diskBase.toNat + len ≤ timerBase.toNat :=
  Nat.add_le_add_left h diskBase.toNat

/-- Settles O7: the disk window ends before the timer's begins. The length of the timer's window is not used. -/
theorem windowsNeverOverlap : Obligations.WindowsNeverOverlap := by
  rintro c hdisk - a ⟨⟨-, inDisk⟩, inTimer, -⟩
  exact absurd (inDisk.trans_le (diskWindow_le_timerBase hdisk)) inTimer.not_gt

/-- The low five bits of the base are 0, so adding an offset sets them. -/
theorem diskBase_add_offset (off : BitVec 5) : diskBase + off.setWidth 16 = 0x7F3#11 ++ off := by
  revert off
  decide

theorem timerBase_add_offset (off : BitVec 5) : timerBase + off.setWidth 16 = 0x7F4#11 ++ off := by
  revert off
  decide

/-! ### Cycles whose register operation changes nothing (R67) -/

/-- A read whose register operation answers `v` from the opened state and keeps that state. -/
theorem busRead_nothingElse {s : State} (hdir : s.xcvr.addrDir = .sample) (a : Addr) (sync : Bool) {v : Byte}
    {target : State → Byte × State} (htarget : target (openEvent s) = (v, openEvent s)) :
    ∃ t, busRead a sync target s = .next t ∧ NothingElse s t ∧ ReadCycle a sync v s t := by
  refine ⟨_, busRead_eq hdir a sync target, ?_⟩
  rw [htarget]
  simp [NothingElse, SameStore, SameMemory, ReadCycle, SameInputs]

theorem busWrite_ignoreWrite {s : State} (hdir : s.xcvr.addrDir = .sample) (a : Addr) (sync : Bool) (d : Byte) :
    ∃ t, busWrite a sync d ignoreWrite s = .next t ∧ NothingElse s t ∧ WriteCycle a sync d s t := by
  refine ⟨_, busWrite_eq hdir a sync d ignoreWrite, ?_⟩
  simp [ignoreWrite, NothingElse, SameStore, SameMemory, WriteCycle, SameInputs]

/-! ### The cycles at an offset that holds no register (R155) -/

theorem decode_diskPast {c : Config} (hc : configWf c = true) {off : BitVec 5} (hpast : diskNReg c.variant ≤ off.toNat)
    (hin : off.toNat < c.diskWindowLen) (sync : Bool) (acc : Access) :
    decode c (accessWord sync (diskBase + off.setWidth 16) acc) = .diskInvalid sync off acc := by
  rw [diskBase_add_offset, decode_diskWindow hc hin, diskInstr_of_past hpast]

theorem decode_timerPast {c : Config} (hc : configWf c = true) {off : BitVec 5} (hpast : timerNReg ≤ off.toNat)
    (hin : off.toNat < c.timerWindowLen) (sync : Bool) (acc : Access) :
    decode c (accessWord sync (timerBase + off.setWidth 16) acc) = .timerInvalid sync off acc := by
  rw [timerBase_add_offset, decode_timerWindow hc hin, timerInstr_of_past hpast]

theorem exec_diskInvalid (sync : Bool) (off : BitVec 5) (acc : Access) (s : State) :
    exec (.diskInvalid sync off acc) s =
      busAccess (diskBase + off.setWidth 16) sync acc zeroRead ignoreWrite s := by
  rw [diskBase_add_offset]
  rfl

theorem exec_timerInvalid (sync : Bool) (off : BitVec 5) (acc : Access) (s : State) :
    exec (.timerInvalid sync off acc) s =
      busAccess (timerBase + off.setWidth 16) sync acc zeroRead ignoreWrite s := by
  rw [timerBase_add_offset]
  rfl

/-- Settles O34: past the registers the decoder answers the invalid-offset event of the window, whose cycle has the register
operations of R100. -/
theorem invalidOffsetsDoNothing : Obligations.InvalidOffsetsDoNothing := by
  refine ⟨fun c sync off d hc => ⟨fun hpast hin => ?timer, fun hpast hin => ?disk⟩, fun sync off d s hdir => ?cycles⟩
  case timer => exact ⟨decode_timerPast hc hpast hin sync .read, decode_timerPast hc hpast hin sync (.write d)⟩
  case disk => exact ⟨decode_diskPast hc hpast hin sync .read, decode_diskPast hc hpast hin sync (.write d)⟩
  case cycles =>
    simp only [exec_timerInvalid, exec_diskInvalid]
    exact ⟨busRead_nothingElse hdir _ sync rfl, busWrite_ignoreWrite hdir _ sync d,
      busRead_nothingElse hdir _ sync rfl, busWrite_ignoreWrite hdir _ sync d⟩

end Sys2Proof.Machine
end

/-! ## The timer's registers (R170 to R184) -/

section
namespace Sys2Proof.Machine

/-! ### Their words and their cycles -/

/-- A write cycle whose register operation replaces the timer by a function of the timer: nothing else changes but the
transceiver. -/
theorem busWrite_timer {f : Timer → Timer} {target : Byte → State → State} {d : Byte}
    (htarget : ∀ s, target d s = putTimer (f s.timer) s) {s : State} (hdir : s.xcvr.addrDir = .sample) (a : Addr)
    (sync : Bool) :
    ∃ t, busWrite a sync d target s = .next t ∧ t.timer = f s.timer ∧ OnlyTimer s t ∧ WriteCycle a sync d s t := by
  refine ⟨_, busWrite_eq hdir a sync d target, ?_⟩
  rw [htarget]
  simp [OnlyTimer, SameStore, SameMemory, WriteCycle, SameInputs]

/-- Settles O27: TIMER_TARGET is the register at offset 0, and `writeTarget` replaces the timer alone. -/
theorem timerTargetWriteArmsTheTimer : Obligations.TimerTargetWriteArmsTheTimer := fun sync v =>
  ⟨fun _ hc => decode_timerRegister hc 0#5 (by decide) sync (.write v),
    fun _ hdir => busWrite_timer (f := timerEffect (.timerTargetW sync v)) (fun _ => rfl) hdir _ sync⟩

/-- Settles O28: TIMER_RESET is the register at offset 2, and `resetPeriod` replaces the timer alone. -/
theorem timerResetWriteRestartsThePeriod : Obligations.TimerResetWriteRestartsThePeriod := fun sync d =>
  ⟨fun _ hc => decode_timerRegister hc 2#5 (by decide) sync (.write d),
    fun _ hdir => busWrite_timer (f := timerEffect (.timerResetW sync d)) (fun _ => rfl) hdir _ sync⟩

/-- Settles O29: TIMER_TRIG is the register at offset 3, and `triggerNow` replaces the timer alone. -/
theorem timerTrigWriteFires : Obligations.TimerTrigWriteFires := fun sync d =>
  ⟨fun _ hc => decode_timerRegister hc 3#5 (by decide) sync (.write d),
    fun _ hdir => busWrite_timer (f := timerEffect (.timerTrigW sync d)) (fun _ => rfl) hdir _ sync⟩

/-- Settles O30: TIMER_PAUSE is the register at offset 4, and `pauseTimer` replaces the timer alone. -/
theorem timerPauseWriteFreezes : Obligations.TimerPauseWriteFreezes := fun sync d =>
  ⟨fun _ hc => decode_timerRegister hc 4#5 (by decide) sync (.write d),
    fun _ hdir => busWrite_timer (f := timerEffect (.timerPauseW sync d)) (fun _ => rfl) hdir _ sync⟩

/-- Settles O31: TIMER_CONT is the register at offset 5, and `resumeTimer` replaces the timer alone. -/
theorem timerContWriteResumes : Obligations.TimerContWriteResumes := fun sync d =>
  ⟨fun _ hc => decode_timerRegister hc 5#5 (by decide) sync (.write d),
    fun _ hdir => busWrite_timer (f := timerEffect (.timerContW sync d)) (fun _ => rfl) hdir _ sync⟩

/-- Settles O32: TIMER_COUNT is the register at offset 1, and `readCount` changes nothing. -/
theorem timerCountReadAnswersTheCount : Obligations.TimerCountReadAnswersTheCount := fun sync =>
  ⟨fun _ hc => decode_timerRegister hc 1#5 (by decide) sync .read,
    fun _ hdir => busRead_nothingElse (target := readCount) hdir _ sync rfl⟩

/-- Settles O33: the accesses the register table does not list have the register operations of R100. -/
theorem unlistedTimerAccessesDoNothing : Obligations.UnlistedTimerAccessesDoNothing := by
  refine ⟨fun c sync d hc => ?words, fun sync d s hdir => ?cycles⟩
  case words =>
    exact ⟨decode_timerRegister hc 0#5 (by decide) sync .read, decode_timerRegister hc 1#5 (by decide) sync (.write d),
      decode_timerRegister hc 2#5 (by decide) sync .read, decode_timerRegister hc 3#5 (by decide) sync .read,
      decode_timerRegister hc 4#5 (by decide) sync .read, decode_timerRegister hc 5#5 (by decide) sync .read⟩
  case cycles =>
    have unlistedRead (a : Addr) := busRead_nothingElse (target := zeroRead) hdir a sync rfl
    exact ⟨unlistedRead _, busWrite_ignoreWrite hdir _ sync d, unlistedRead _, unlistedRead _, unlistedRead _,
      unlistedRead _⟩

end Sys2Proof.Machine
end

/-! ## TICK (R177) -/

section
namespace Sys2Proof.Machine

/-- The count and the target are compared as signed 16-bit values (R177). -/
theorem periodElapsed_iff_toInt_le (t : Count) (target : Byte) :
    periodElapsed t target = true ↔ (target.setWidth 16).toInt ≤ t.toInt :=
  decide_eq_true_iff

theorem tickTimer_of_paused {t : Timer} (h : t.mode = .paused) : tickTimer t = t := if_pos h

/-- The TICK that ends a period. -/
theorem tickTimer_of_elapsed {t : Timer} (hmode : t.mode ≠ .paused)
    (h : periodElapsed (t.ticks + 1#16) t.target = true) :
    tickTimer t = assertIrq { t with ticks := t.ticks + 1#16 - targetCount t.target } :=
  (if_neg hmode).trans (if_pos h)

/-- A TICK inside a period. -/
theorem tickTimer_of_not_elapsed {t : Timer} (hmode : t.mode ≠ .paused)
    (h : ¬ periodElapsed (t.ticks + 1#16) t.target = true) : tickTimer t = { t with ticks := t.ticks + 1#16 } :=
  (if_neg hmode).trans (if_neg h)

/-- Settles O35: the timer's three cases, and TICK replaces the timer alone. -/
theorem tickCountsAndFires : Obligations.TickCountsAndFires := by
  refine ⟨fun c w h => decode_tick h c, fun s => ⟨_, exec_tick s, tickTimer_of_paused, ?fires, ?counts, ?frame⟩⟩
  case fires => exact fun hmode h => tickTimer_of_elapsed hmode ((periodElapsed_iff_toInt_le _ _).mpr h)
  case counts =>
    exact fun hmode h => tickTimer_of_not_elapsed hmode (mt (periodElapsed_iff_toInt_le _ _).mp h.not_ge)
  case frame => simp [OnlyTimer, SameStore, SameMemory]

end Sys2Proof.Machine
end

/-! ## Runs that TICK (R187 to R190) -/

section
namespace Sys2Proof.Machine

/-- A run goes on from where an earlier part of it ended. -/
theorem runEvents_append {l : List Instr} {s t : State} (h : runEvents l s = .next t) (l' : List Instr) :
    runEvents (l ++ l') s = runEvents l' t := by
  induction l generalizing s with
  | nil => exact congrArg (runEvents l') (Host.Outcome.next.inj h)
  | cons i l ih =>
    cases hi : exec i s with
    | next u =>
      rw [runEvents_cons_of_next hi] at h
      exact (runEvents_cons_of_next hi _).trans (ih h)
    | fault f => simp [runEvents, hi] at h
    | refused r => simp [runEvents, hi] at h

/-- A run whose last event has a next state ends there. -/
theorem runEvents_concat {l : List Instr} {i : Instr} {s u t : State} (h : runEvents l s = .next u)
    (hi : exec i u = .next t) : runEvents (l ++ [i]) s = .next t :=
  (runEvents_append h [i]).trans (runEvents_cons_of_next hi [])

/-- The timer after a bus cycle. -/
theorem exec_timer {i : Instr} (hb : isBusCycle i = true) {s t : State} (h : exec i s = .next t) :
    t.timer = timerEffect i s.timer := by
  rw [(exec_effect hb h).timer, effect_timer, openEvent_timer]

/-- With the address bus in SAMPLE a bus cycle completes, ready for the next one, and the timer is what the cycle makes
of it. -/
theorem exec_ready {i : Instr} (hb : isBusCycle i = true) {s : State} (hdir : s.xcvr.addrDir = .sample) :
    ∃ t, exec i s = .next t ∧ t.xcvr.addrDir = .sample ∧ t.timer = timerEffect i s.timer := by
  obtain ⟨t, ht⟩ := exec_completes hb hdir
  obtain ⟨-, -, hsame, -⟩ := exec_sameInputs hb ht
  exact ⟨t, ht, hsame.trans hdir, exec_timer hb ht⟩

/-! ### A target of at least 1: the phase of the period (R187) -/

/-- The timer counts a period of `T`, and `n` TICKs have come since the period was started. -/
structure InPhase (T : Byte) (n : Nat) (t : Timer) : Prop where
  target : t.target = T
  ticks  : t.ticks.toNat = n % T.toNat
  active : t.mode ≠ .paused

/-- A write that starts a period leaves the timer at its phase 0. -/
theorem exec_armsWith {s : State} {arm : Instr} {T : Byte} (hdir : s.xcvr.addrDir = .sample)
    (h : armsWith s arm = some T) :
    ∃ t, exec arm s = .next t ∧ t.xcvr.addrDir = .sample ∧ InPhase T 0 t.timer := by
  have hstart : isBusCycle arm = true ∧ InPhase T 0 (timerEffect arm s.timer) := by
    cases arm with
    | timerTargetW => cases h; exact ⟨rfl, rfl, (Nat.zero_mod _).symm, nofun⟩
    | timerResetW => cases h; exact ⟨rfl, rfl, (Nat.zero_mod _).symm, nofun⟩
    | timerTrigW => cases h; exact ⟨rfl, rfl, (Nat.zero_mod _).symm, nofun⟩
    | _ => cases h
  obtain ⟨hb, hphase⟩ := hstart
  obtain ⟨t, ht, htdir, htimer⟩ := exec_ready hb hdir
  exact ⟨t, ht, htdir, htimer ▸ hphase⟩

/-- An event that keeps the phase is a TICK, or a bus cycle that leaves or acknowledges the timer. -/
theorem keepsPhase_cases {i : Instr} (h : keepsPhase i = true) :
    i = .tick ∨
    (i ≠ .tick ∧ isBusCycle i = true ∧ ∀ t, timerEffect i t = t ∨ timerEffect i t = acknowledgeIrq t) := by
  cases i with
  | tick => exact .inl rfl
  | timerContW => exact .inr ⟨nofun, rfl, fun _ => .inr rfl⟩
  | init => cases h
  | reservedKind => cases h
  | timerTargetW => cases h
  | timerResetW => cases h
  | timerTrigW => cases h
  | timerPauseW => cases h
  | _ => exact .inr ⟨nofun, rfl, fun _ => .inl rfl⟩

/-- What one event does to the mode and the line, when `n` TICKs have come with it: a TICK at a multiple of `T` fires, any
other TICK leaves both, and no other event raises the line. -/
def MovesLine (T : Byte) (n : Nat) (i : Instr) (t t' : Timer) : Prop :=
  (i = .tick → n % T.toNat = 0 → t'.mode = .triggered ∧ t'.irq = true) ∧
  (i = .tick → n % T.toNat ≠ 0 → t'.mode = t.mode ∧ t'.irq = t.irq) ∧
  (i ≠ .tick → t.irq = false → t'.irq = false)

/-- A TICK moves the phase on by one: the count reaches `T` exactly at its multiples, and there it starts again at 0. -/
theorem InPhase.tick {T : Byte} {n : Nat} {t : Timer} (h : InPhase T n t) (hT : 1 ≤ T.toNat) :
    InPhase T (n + 1) (tickTimer t) ∧ MovesLine T (n + 1) .tick t (tickTimer t) := by
  obtain ⟨rfl, hticks, hactive⟩ := h
  have htarget := t.target.isLt
  have hphase := Nat.mod_lt n hT
  have hnext : (t.ticks + 1#16).toNat = n % t.target.toNat + 1 := by
    rw [BitVec.toNat_add, hticks]
    exact Nat.mod_eq_of_lt (show n % t.target.toNat + 1 < 2 ^ 16 by omega)
  have helapsed := periodElapsed_iff (t := t.ticks + 1#16) (by omega) t.target
  have hmod : (n + 1) % t.target.toNat = (n % t.target.toNat + 1) % t.target.toNat := (Nat.mod_add_mod n _ 1).symm
  obtain hlast | hinside : n % t.target.toNat + 1 = t.target.toNat ∨ n % t.target.toNat + 1 < t.target.toNat := by omega
  · have hzero : (n + 1) % t.target.toNat = 0 := by rw [hmod, hlast, Nat.mod_self]
    have hrestart : t.ticks + 1#16 = targetCount t.target :=
      BitVec.eq_of_toNat_eq (by simp only [targetCount, BitVec.toNat_setWidth]; omega)
    rw [tickTimer_of_elapsed hactive (helapsed.mpr (by omega)), hrestart, BitVec.sub_self]
    exact ⟨⟨rfl, hzero.symm, nofun⟩, fun _ _ => ⟨rfl, rfl⟩, fun _ h => absurd hzero h, fun h => absurd rfl h⟩
  · have hcount : (n + 1) % t.target.toNat = n % t.target.toNat + 1 := hmod.trans (Nat.mod_eq_of_lt hinside)
    rw [tickTimer_of_not_elapsed hactive (mt helapsed.mp (by omega))]
    exact ⟨⟨rfl, hnext.trans hcount.symm, hactive⟩, fun _ h => absurd (hcount.symm.trans h) (Nat.succ_ne_zero _),
      fun _ _ => ⟨rfl, rfl⟩, fun h => absurd rfl h⟩

/-- An event that keeps the phase moves it on exactly if it is a TICK. -/
theorem exec_keepsPhase {T : Byte} (hT : 1 ≤ T.toNat) {n : Nat} {i : Instr} {s : State} (hdir : s.xcvr.addrDir = .sample)
    (hi : keepsPhase i = true) (h : InPhase T n s.timer) :
    ∃ t, exec i s = .next t ∧ t.xcvr.addrDir = .sample ∧ InPhase T (n + [i].count .tick) t.timer ∧
      MovesLine T (n + [i].count .tick) i s.timer t.timer := by
  obtain rfl | ⟨hne, hb, hleaves⟩ := keepsPhase_cases hi
  · exact ⟨_, exec_tick s, hdir, h.tick hT⟩
  · obtain ⟨t, ht, htdir, htimer⟩ := exec_ready hb hdir
    rw [List.count_singleton, beq_false_of_ne hne]
    refine ⟨t, ht, htdir, ?_⟩
    obtain e | e := hleaves s.timer <;> rw [htimer, e]
    · exact ⟨h, fun he => absurd he hne, fun he => absurd he hne, fun _ => id⟩
    · exact ⟨⟨h.target, h.ticks, nofun⟩, fun he => absurd he hne, fun he => absurd he hne, fun _ _ => rfl⟩

/-- A run that starts a period and then keeps its phase: it completes, and its TICKs give the phase. -/
theorem runEvents_keepsPhase {T : Byte} (hT : 1 ≤ T.toNat) {s : State} (hdir : s.xcvr.addrDir = .sample) {arm : Instr}
    (harm : armsWith s arm = some T) (l : List Instr) (hl : ∀ i ∈ l, keepsPhase i = true) :
    ∃ t, runEvents (arm :: l) s = .next t ∧ t.xcvr.addrDir = .sample ∧ InPhase T (l.count .tick) t.timer := by
  induction l using List.reverseRecOn with
  | nil =>
    obtain ⟨t, ht, hphase⟩ := exec_armsWith hdir harm
    exact ⟨t, runEvents_cons_of_next ht [], hphase⟩
  | append_singleton l i ih =>
    simp only [List.forall_mem_append, List.forall_mem_singleton] at hl
    obtain ⟨u, hu, hudir, huphase⟩ := ih hl.1
    obtain ⟨t, ht, htdir, htphase, -⟩ := exec_keepsPhase hT hudir hl.2 huphase
    rw [List.count_append]
    exact ⟨t, runEvents_concat hu ht, htdir, htphase⟩

/-- Settles O36: the run keeps the phase (`runEvents_keepsPhase`), and so does the part of it before its last event, from
which that event moves the line as `exec_keepsPhase` says. -/
theorem periodicTriggersKeepTheirPhase : Obligations.PeriodicTriggersKeepTheirPhase := by
  intro s arm T l hdir harm hT hl
  obtain ⟨t, ht, -, hphase⟩ := runEvents_keepsPhase hT hdir harm l hl
  refine ⟨t, ht, hphase.target, hphase.ticks, ?_⟩
  rintro l' i rfl
  simp only [List.forall_mem_append, List.forall_mem_singleton] at hl
  obtain ⟨u, hu, hudir, huphase⟩ := runEvents_keepsPhase hT hdir harm l' hl.1
  obtain ⟨t', ht', -, -, hline⟩ := exec_keepsPhase hT hudir hl.2 huphase
  obtain rfl : t' = t := Host.Outcome.next.inj ((runEvents_concat hu ht').symm.trans ht)
  rw [List.count_append]
  exact ⟨u, hu, hline⟩

/-! ### Target 0 (R189, R190) -/

/-- The timer counts with target 0, and `n` TICKs have come since it was armed. -/
structure CountsFree (n : Nat) (t : Timer) : Prop where
  target : t.target = 0x00#8
  ticks  : t.ticks = BitVec.ofNat 16 n
  active : t.mode ≠ .paused
  fired  : 1 ≤ n → t.mode = .triggered ∧ t.irq = true

/-- With target 0 a TICK that fires takes nothing off the count; one that does not fire comes after the first, so the line is
asserted already. -/
theorem CountsFree.tick {n : Nat} {t : Timer} (h : CountsFree n t) : CountsFree (n + 1) (tickTimer t) := by
  obtain ⟨htarget, hticks, hactive, hfired⟩ := h
  have hnext : t.ticks + 1#16 = BitVec.ofNat 16 (n + 1) := by rw [hticks, BitVec.ofNat_add]
  by_cases helapsed : periodElapsed (t.ticks + 1#16) t.target = true
  · rw [tickTimer_of_elapsed hactive helapsed, htarget]
    exact ⟨rfl, (BitVec.sub_zero _).trans hnext, nofun, fun _ => ⟨rfl, rfl⟩⟩
  · have hpos : 1 ≤ n := by
      rw [Nat.one_le_iff_ne_zero]
      rintro rfl
      exact helapsed (by rw [hnext, htarget]; decide)
    rw [tickTimer_of_not_elapsed hactive helapsed]
    exact ⟨htarget, hnext, hactive, fun _ => hfired hpos⟩

/-- Arming with target 0 and `n` TICKs: each TICK is one `CountsFree.tick`. -/
theorem runEvents_countsFree {s : State} (hdir : s.xcvr.addrDir = .sample) (sync : Bool) (n : Nat) :
    ∃ t, runEvents (.timerTargetW sync 0x00#8 :: List.replicate n .tick) s = .next t ∧ CountsFree n t.timer := by
  induction n with
  | zero =>
    obtain ⟨t, ht, -, htimer⟩ := exec_ready (i := .timerTargetW sync 0x00#8) rfl hdir
    exact ⟨t, runEvents_cons_of_next ht [], htimer ▸ ⟨rfl, rfl, nofun, nofun⟩⟩
  | succ n ih =>
    obtain ⟨u, hu, hcounts⟩ := ih
    rw [List.replicate_succ']
    exact ⟨_, runEvents_concat hu (exec_tick u), hcounts.tick⟩

/-- Settles O37: `runEvents_countsFree`, and a negative count has not reached the target 0. -/
theorem zeroTargetFiresAndWraps : Obligations.ZeroTargetFiresAndWraps := by
  refine ⟨fun s sync n hdir => ?wraps, fun s htarget hmode hneg => ?negative⟩
  case wraps =>
    obtain ⟨t, ht, hcounts⟩ := runEvents_countsFree hdir sync n
    exact ⟨t, ht, hcounts.ticks, hcounts.target, hcounts.fired⟩
  case negative =>
    refine ⟨_, exec_tick s, tickTimer_of_not_elapsed hmode ?_⟩
    rw [periodElapsed_iff_toInt_le, htarget]
    exact hneg.not_ge

end Sys2Proof.Machine
end

/-! ## The disk's cycles (R210, R211): what every one of them leaves alone, and what an unavailable store does to it -/

section
namespace Sys2Proof.Machine

/-! ### Every disk cycle -/

theorem isBusCycle_of_isDiskCycle {i : Instr} (h : isDiskCycle i = true) : isBusCycle i = true := by
  cases i with
  | init => cases h
  | tick => cases h
  | reservedKind => cases h
  | _ => rfl

theorem timerEffect_of_isDiskCycle {i : Instr} (h : isDiskCycle i = true) (t : Timer) : timerEffect i t = t := by
  cases i with
  | timerTargetW => cases h
  | timerResetW => cases h
  | timerTrigW => cases h
  | timerPauseW => cases h
  | timerContW => cases h
  | _ => rfl

theorem memEffect_of_isDiskCycle {i : Instr} (h : isDiskCycle i = true) (c : Config) (m : Memory) :
    memEffect c i m = m := by
  cases i with
  | memW => cases h
  | _ => rfl

/-- With the address bus in SAMPLE a disk cycle completes with its register operation's effect on the disk and the store,
and leaves the timer and the memory. -/
theorem exec_diskCycle {i : Instr} (hi : isDiskCycle i = true) {s : State} (hdir : s.xcvr.addrDir = .sample) :
    ∃ t, exec i s = .next t ∧ SamePeripherals (effect i (openEvent s)) t ∧ t.timer = s.timer ∧ SameMemory s t := by
  have hb := isBusCycle_of_isDiskCycle hi
  obtain ⟨t, ht⟩ := exec_completes hb hdir
  have same := exec_effect hb ht
  refine ⟨t, ht, same, ?timer, fun k => ?memory⟩
  case timer => rw [exec_timer hb ht, timerEffect_of_isDiskCycle hi]
  case memory => rw [same.mem, effect_mem, memEffect_of_isDiskCycle hi, openEvent_mem]

/-- The transceiver and the record after a write cycle, around any operation that keeps the frame (R260, R264). -/
theorem writeCycle_of_busWrite {target : Byte → State → State} {d : Byte} (hkeep : ∀ u, KeepsFrame u (target d u))
    {a : Addr} {sync : Bool} {s t : State} (h : busWrite a sync d target s = .next t) : WriteCycle a sync d s t := by
  obtain ⟨-, rfl⟩ := busWrite_next h
  obtain ⟨hcfg, hxcvr, hevents, hinit, -, hswitches⟩ := hkeep (needDataDirection .sample (openEvent s))
  simp [WriteCycle, SameInputs, hcfg, hxcvr, hevents, hinit, hswitches]

/-- The transceiver and the record after a read cycle: the byte driven is the operation's answer (R260, R264). -/
theorem readCycle_of_busRead {target : State → Byte × State} (hkeep : ∀ u, KeepsFrame u (target u).2)
    {a : Addr} {sync : Bool} {s t : State} (h : busRead a sync target s = .next t) :
    ReadCycle a sync (target (openEvent s)).1 s t := by
  obtain ⟨-, rfl⟩ := busRead_next h
  obtain ⟨hcfg, hxcvr, hevents, hinit, -, hswitches⟩ := hkeep (openEvent s)
  simp [ReadCycle, SameInputs, hcfg, hxcvr, hevents, hinit, hswitches]

/-- A read cycle drives its operation's answer. -/
theorem busRead_dataOut {target : State → Byte × State} {a : Addr} {sync : Bool} {s t : State}
    (h : busRead a sync target s = .next t) : t.xcvr.dataOut = (target (openEvent s)).1 := by
  obtain ⟨-, rfl⟩ := busRead_next h
  rfl

/-- No event but a DISK_DATA write changes a stored byte. -/
theorem bytes_of_effect {i : Instr} (hi : storedByte i = none) {s t : State}
    (same : SamePeripherals (effect i (openEvent s)) t) : t.store.bytes = s.store.bytes := by
  rw [same.store]
  refine (effect_bytes i (openEvent s)).resolve_right ?_
  rintro ⟨sync, v, rfl | rfl, -⟩ <;> cases hi

theorem storedByte_of_not_isDiskData {i : Instr} (h : isDiskData i = false) : storedByte i = none := by
  cases i with
  | diskDataWA => cases h
  | diskDataWB => cases h
  | _ => rfl

/-- No cycle but SEEK and DISK_DATA touches the store. -/
theorem sameStore_of_effect {i : Instr} {s t : State} (same : SamePeripherals (effect i (openEvent s)) t)
    (hseek : ∀ sync, i ≠ .diskSeek sync) (hdata : isDiskData i = false) : SameStore s t := by
  have hpos := (effect_pos i (openEvent s)).resolve_right
    (not_or_intro (fun ⟨sync, h⟩ => hseek sync h) (Bool.eq_false_iff.1 hdata))
  have hbytes := bytes_of_effect (storedByte_of_not_isDiskData hdata) same
  exact ⟨by rw [same.store, hpos, openEvent_store], fun k => by rw [hbytes]⟩

/-! ### While the store is unavailable (R211) -/

theorem readStoreByte_of_closed {s : State} (h : s.cfg.storeOpen = false) :
    readStoreByte s = (0x00#8, raiseError .deviceUnavailable s) := by
  simp [readStoreByte, h]

/-- The accesses R211 lists do nothing but raise the error. -/
theorem effect_of_raisesUnavailable {i : Instr} (hi : raisesUnavailable i = true) {s : State}
    (h : s.cfg.storeOpen = false) : effect i s = raiseError .deviceUnavailable s := by
  have closed := fun op => whenAvailable_closed h op
  have closedRead := congrArg Prod.snd (readStoreByte_of_closed h)
  cases i with
  | diskSelect => simp [effect, selectDisk, closed]
  | diskSeek => simp [effect, seekDisk, closed]
  | diskCmdReserved => simp [effect, reservedCommand, closed]
  | diskParam0W => simp [effect, latchParam, closed]
  | diskParam1W => simp [effect, latchParam, closed]
  | diskParam2W => simp [effect, latchParam, closed]
  | diskParam3W => simp [effect, latchParam, closed]
  | diskDataWA => simp [effect, writeStoreByte, closed]
  | diskDataWB => simp [effect, writeStoreByte, closed]
  | diskDataRA => exact closedRead
  | diskDataRB => exact closedRead
  | _ => cases hi

/-- The disk accesses R211 does not list have no effect, whether the store is available or not. -/
theorem effect_of_not_raisesUnavailable {i : Instr} (hi : isDiskCycle i = true) (hr : raisesUnavailable i = false)
    (s : State) : effect i s = s := by
  cases i with
  | diskSelect => cases hr
  | diskSeek => cases hr
  | diskCmdReserved => cases hr
  | diskParam0W => cases hr
  | diskParam1W => cases hr
  | diskParam2W => cases hr
  | diskParam3W => cases hr
  | diskDataWA => cases hr
  | diskDataWB => cases hr
  | diskDataRA => cases hr
  | diskDataRB => cases hr
  | timerTargetW => cases hi
  | timerResetW => cases hi
  | timerTrigW => cases hi
  | timerPauseW => cases hi
  | timerContW => cases hi
  | memW => cases hi
  | _ => rfl

/-- An access R211 lists is rejected: the status becomes NOK, the store stays, and the error is raised. -/
theorem rejected_of_closed {i : Instr} (hi : raisesUnavailable i = true) {s t : State}
    (same : SamePeripherals (effect i (openEvent s)) t) (hclosed : s.cfg.storeOpen = false) :
    t.disk = { s.disk with status := .nok } ∧ t.store = s.store ∧ t.raised = some .deviceUnavailable := by
  rw [effect_of_raisesUnavailable hi (s := openEvent s) hclosed] at same
  exact ⟨same.disk, same.store, same.raised⟩

/-- What a disk read answers: 0x01 for DISK_STATUS, 0x00 for every other register. -/
theorem exec_dataOut_of_closed {i : Instr} (hi : isDiskCycle i = true) (hread : neededDirection i = some .drive)
    {s t : State} (hclosed : s.cfg.storeOpen = false) (h : exec i s = .next t) :
    t.xcvr.dataOut = if isStatusRead i then 0x01#8 else 0x00#8 := by
  have diskRead : (isDiskCycle i, neededDirection i) = (true, some .drive) := Prod.ext hi hread
  have data : (readStoreByte (openEvent s)).1 = 0x00#8 :=
    congrArg Prod.fst (readStoreByte_of_closed (s := openEvent s) hclosed)
  have status : (readStatus (openEvent s)).1 = 0x01#8 := by simp [readStatus, hclosed]
  cases i with
  | diskDataRA => exact (busRead_dataOut h).trans data
  | diskDataRB => exact (busRead_dataOut h).trans data
  | diskStatusRA => exact (busRead_dataOut h).trans status
  | diskStatusRB => exact (busRead_dataOut h).trans status
  | diskCommandR => exact busRead_dataOut h
  | diskParam0R => exact busRead_dataOut h
  | diskParam1R => exact busRead_dataOut h
  | diskParam2R => exact busRead_dataOut h
  | diskParam3R => exact busRead_dataOut h
  | diskInvalid _ _ acc =>
    cases acc with
    | read => exact busRead_dataOut h
    | write => cases hread
  | _ => cases diskRead

/-- Settles O48: the accesses R211 lists do nothing but raise the error, which leaves a status that is NOK already, and the
other disk accesses have no effect. -/
theorem unavailableDiskRejectsEverything : Obligations.UnavailableDiskRejectsEverything := by
  intro i s hdir hclosed hnok hi
  obtain ⟨t, ht, same, htimer, hmem⟩ := exec_diskCycle hi hdir
  have keepsDisk : { s.disk with status := .nok } = s.disk := by rw [← hnok]
  have hpart : t.disk = s.disk ∧ t.store = s.store ∧
      t.raised = if raisesUnavailable i then some .deviceUnavailable else none := by
    cases hr : raisesUnavailable i with
    | true =>
      obtain ⟨hdisk, hstore, hraised⟩ := rejected_of_closed hr same hclosed
      exact ⟨hdisk.trans keepsDisk, hstore, hraised⟩
    | false =>
      rw [effect_of_not_raisesUnavailable hi hr] at same
      exact ⟨same.disk, same.store, same.raised⟩
  obtain ⟨hdisk, hstore, hraised⟩ := hpart
  exact ⟨t, ht, hdisk, ⟨congrArg Store.pos hstore, fun k => by rw [hstore]⟩, htimer, hmem, hraised,
    fun hread => exec_dataOut_of_closed hi hread hclosed ht⟩

/-- Settles O50: INIT apart, an event is a TICK, which keeps the store, or a bus cycle with the effects `effect_pos` and
`effect_bytes` speak of. -/
theorem onlySeekAndDataTouchTheStore : Obligations.OnlySeekAndDataTouchTheStore := by
  intro i s t h hinit
  obtain rfl | rfl | rfl | hb := isBusCycle_cases i
  · exact absurd rfl hinit
  · cases h
    exact ⟨fun hne => absurd rfl hne, fun hne => absurd rfl hne⟩
  · cases h
  · rw [(exec_effect hb h).store]
    refine ⟨fun hpos => (effect_pos i (openEvent s)).resolve_left hpos, fun hbytes => ?_⟩
    obtain ⟨sync, v, rfl | rfl, -⟩ := (effect_bytes i (openEvent s)).resolve_left hbytes
    · rfl
    · rfl

end Sys2Proof.Machine
end

/-! ## The disk's registers (R212 to R224) -/

section
namespace Sys2Proof.Machine

/-! ### The register operations while the store is available -/

theorem selectDisk_of_open {s : State} (ho : s.cfg.storeOpen = true) :
    selectDisk s = reportOk (latchCommand 0x00#8 s) :=
  whenAvailable_open ho _

theorem reservedCommand_of_open {s : State} (ho : s.cfg.storeOpen = true) (v : Byte) :
    reservedCommand v s =
      { s with disk := { s.disk with cmd := v, status := if Config.freeOk s.draws then .ok else .nok },
               draws := s.draws + 1 } :=
  whenAvailable_open ho _

theorem latchParam_of_open {s : State} (ho : s.cfg.storeOpen = true) (k : Nat) (v : Byte) :
    latchParam k v s = { s with disk := { s.disk with param := s.disk.param.set k v } } :=
  whenAvailable_open ho _

theorem seekOffset_eq (s : State) : seekOffset s = blockNumber s.disk.param * 512 :=
  byteOffset_eq _ _

theorem seekDisk_of_accepted {s : State} (ho : s.cfg.storeOpen = true)
    (h : seekSucceeds (blockNumber s.disk.param * 512) s = true) :
    seekDisk s = reportOk (moveStore (blockNumber s.disk.param * 512) (latchCommand 0x01#8 s)) := by
  rw [← seekOffset_eq] at h ⊢
  obtain ⟨hc, -⟩ | ⟨-, -, e⟩ | ⟨-, hr, -⟩ := seekDisk_cases s
  · exact absurd ho (by simp [hc])
  · exact e
  · exact absurd h (by simp [hr])

theorem seekDisk_of_rejected {s : State} (ho : s.cfg.storeOpen = true)
    (h : seekSucceeds (blockNumber s.disk.param * 512) s = false) :
    seekDisk s = raiseError .seekRejected (moveStore (Config.freePos s.draws) (latchCommand 0x01#8 s)) := by
  rw [← seekOffset_eq] at h
  obtain ⟨hc, -⟩ | ⟨-, hr, -⟩ | ⟨-, -, e⟩ := seekDisk_cases s
  · exact absurd ho (by simp [hc])
  · exact absurd h (by simp [hr])
  · exact e

theorem readStoreByte_of_succeeds {s : State} (ho : s.cfg.storeOpen = true) (h : readSucceeds s = true) :
    readStoreByte s = (s.store.bytes.read s.store.pos, reportOk (moveStore (s.store.pos + 1) s)) := by
  simp [readStoreByte, storeRead, ho, h]

theorem readStoreByte_of_refused {s : State} (ho : s.cfg.storeOpen = true) (h : readSucceeds s = false) :
    readStoreByte s = (0x00#8, raiseError .transferRejected (moveStore (posAfterRefusal s) s)) := by
  simp [readStoreByte, storeRead, ho, h]

theorem writeStoreByte_of_succeeds {s : State} (ho : s.cfg.storeOpen = true) (h : writeSucceeds s = true) (v : Byte) :
    writeStoreByte v s = reportOk (moveStore (s.store.pos + 1) (putStoreByte v s)) := by
  simp [writeStoreByte, whenAvailable_open ho, storeWrite, h]

theorem writeStoreByte_of_refused {s : State} (ho : s.cfg.storeOpen = true) (h : writeSucceeds s = false) (v : Byte) :
    writeStoreByte v s = raiseError .transferRejected (moveStore (posAfterRefusal s) s) := by
  simp [writeStoreByte, whenAvailable_open ho, storeWrite, h]

/-! ### DISK_COMMAND -/

/-- Settles O40: the gate's two cases; SELECT makes no store call. -/
theorem selectReportsAvailability : Obligations.SelectReportsAvailability := by
  refine fun sync => ⟨fun c hc => decode_diskCommand hc sync (.write 0x00#8), fun s hdir => ?_⟩
  obtain ⟨t, ht, same, htimer, hmem⟩ := exec_diskCycle (i := .diskSelect sync) rfl hdir
  refine ⟨t, ht, fun ho => ?available, fun hc => ?unavailable, htimer, sameStore_of_effect same nofun rfl, hmem,
    writeCycle_of_busWrite (target := fun _ => selectDisk) selectDisk_keepsFrame ht⟩
  case available =>
    rw [effect, selectDisk_of_open (s := openEvent s) ho] at same
    exact ⟨same.disk, same.raised⟩
  case unavailable =>
    obtain ⟨hdisk, -, hraised⟩ := rejected_of_closed rfl same hc
    exact ⟨hdisk, hraised⟩

/-- Settles O41: the gate, and the store's two answers to the seek. -/
theorem seekPositionsTheStore : Obligations.SeekPositionsTheStore := by
  refine fun sync => ⟨fun c hc => decode_diskCommand hc sync (.write 0x01#8), fun s hdir => ?_⟩
  obtain ⟨t, ht, same, htimer, hmem⟩ := exec_diskCycle (i := .diskSeek sync) rfl hdir
  have hbytes := bytes_of_effect rfl same
  refine ⟨t, ht, fun hc => ?unavailable, fun ho hs => ?accepted, fun ho hs => ?rejected, fun k => by rw [hbytes], htimer,
    hmem, writeCycle_of_busWrite (target := fun _ => seekDisk) seekDisk_keepsFrame ht⟩
  case unavailable =>
    obtain ⟨hdisk, hstore, hraised⟩ := rejected_of_closed rfl same hc
    exact ⟨hdisk, congrArg Store.pos hstore, hraised⟩
  case accepted =>
    rw [effect, seekDisk_of_accepted (s := openEvent s) ho hs] at same
    exact ⟨same.disk, congrArg Store.pos same.store, same.raised⟩
  case rejected =>
    rw [effect, seekDisk_of_rejected (s := openEvent s) ho hs] at same
    exact ⟨same.disk, same.raised⟩

/-- Settles O42: the gate's two cases; a reserved command makes no store call. -/
theorem reservedCommandIsLatched : Obligations.ReservedCommandIsLatched := by
  refine fun sync d => ⟨fun c hc hselect hseek => ?word, fun s hdir => ?cycle⟩
  case word =>
    refine (decode_diskCommand hc sync (.write d)).trans ?_
    rw [diskCommandInstr, if_neg hselect, if_neg hseek]
  case cycle =>
    obtain ⟨t, ht, same, htimer, hmem⟩ := exec_diskCycle (i := .diskCmdReserved sync d) rfl hdir
    have hparam : t.disk.param = s.disk.param := by
      obtain ⟨-, e⟩ | ⟨-, e⟩ := reservedCommand_cases d (openEvent s) <;> rw [same.disk, effect, e] <;> rfl
    refine ⟨t, ht, fun ho => ?available, fun hc => ?unavailable, hparam, htimer, sameStore_of_effect same nofun rfl, hmem,
      writeCycle_of_busWrite (target := reservedCommand) (reservedCommand_keepsFrame d) ht⟩
    case available =>
      rw [effect, reservedCommand_of_open (s := openEvent s) ho] at same
      exact ⟨congrArg Disk.cmd same.disk, same.raised⟩
    case unavailable =>
      obtain ⟨hdisk, -, hraised⟩ := rejected_of_closed rfl same hc
      exact ⟨hdisk, hraised⟩

/-! ### DISK_PARAM_i -/

/-- Settles O43: each of the four events is a write cycle around `latchParam` of its own register. -/
theorem paramWritesLatch : Obligations.ParamWritesLatch := by
  refine fun sync v => ⟨fun c hc => ?words, fun s i k a hdir hi => ?cycle⟩
  case words =>
    exact ⟨decode_diskParam0 hc sync (.write v), decode_diskParam1 hc sync (.write v), fun hv =>
      ⟨decode_diskRegister hc hv 3#5 (by decide) sync (.write v), decode_diskRegister hc hv 4#5 (by decide) sync (.write v)⟩⟩
  case cycle =>
    have hevent : exec i s = busWrite a sync v (latchParam k) s ∧ effect i = latchParam k v ∧ isDiskCycle i = true ∧
        raisesUnavailable i = true ∧ isDiskData i = false ∧ ∀ sync', i ≠ .diskSeek sync' := by
      simp only [List.mem_cons, List.not_mem_nil, or_false, Prod.mk.injEq] at hi
      obtain ⟨rfl, rfl, rfl⟩ | ⟨rfl, rfl, rfl⟩ | ⟨rfl, rfl, rfl⟩ | ⟨rfl, rfl, rfl⟩ := hi <;>
        exact ⟨rfl, rfl, rfl, rfl, rfl, nofun⟩
    obtain ⟨hexec, heffect, hdisk, hraises, hdata, hseek⟩ := hevent
    obtain ⟨t, ht, same, htimer, hmem⟩ := exec_diskCycle hdisk hdir
    refine ⟨t, ht, fun ho => ?available, fun hc => ?unavailable, htimer, sameStore_of_effect same hseek hdata, hmem,
      writeCycle_of_busWrite (latchParam_keepsFrame k v) (hexec.symm.trans ht)⟩
    case available =>
      rw [heffect, latchParam_of_open (s := openEvent s) ho] at same
      have hregisters : t.disk = { s.disk with param := s.disk.param.set k v } := same.disk
      have hparam : t.disk.param = s.disk.param.set k v := congrArg Disk.param hregisters
      refine ⟨by rw [hregisters], by rw [hregisters], same.raised, ?_, fun hk => ?_, fun j hj => ?_⟩
      · rw [hparam, List.length_set]
      · rw [hparam, List.getElem?_set_self hk]
      · rw [hparam, List.getElem?_set_ne hj.symm]
    case unavailable =>
      obtain ⟨hdisk, -, hraised⟩ := rejected_of_closed hraises same hc
      exact ⟨hdisk, hraised⟩

/-! ### DISK_DATA -/

/-- Settles O44: the gate, and the store's two answers to the read. -/
theorem dataReadStreams : Obligations.DataReadStreams := by
  refine fun sync => ⟨fun c hc => ⟨fun hv => decode_diskRegister hc hv 3#5 (by decide) sync .read,
    fun hv => decode_diskRegister hc hv 5#5 (by decide) sync .read⟩, fun s i a hdir hi => ?cycle⟩
  case cycle =>
    have hevent : exec i s = busRead a sync readStoreByte s ∧ (∀ u, effect i u = (readStoreByte u).2) ∧
        isDiskCycle i = true ∧ storedByte i = none := by
      simp only [List.mem_cons, List.not_mem_nil, or_false, Prod.mk.injEq] at hi
      obtain ⟨rfl, rfl⟩ | ⟨rfl, rfl⟩ := hi <;> exact ⟨rfl, fun _ => rfl, rfl, rfl⟩
    obtain ⟨hexec, heffect, hdisk, hstored⟩ := hevent
    obtain ⟨t, ht, same, htimer, hmem⟩ := exec_diskCycle hdisk hdir
    have hbytes := bytes_of_effect hstored same
    have hcycle := readCycle_of_busRead readStoreByte_keepsFrame (hexec.symm.trans ht)
    rw [heffect] at same
    refine ⟨t, ht, fun ho hs => ?succeeds, fun ho hs => ?refused, fun hc => ?unavailable, fun k => by rw [hbytes], htimer,
      hmem⟩
    case succeeds =>
      rw [readStoreByte_of_succeeds (s := openEvent s) ho hs] at same hcycle
      exact ⟨hcycle, congrArg Store.pos same.store, same.disk, same.raised⟩
    case refused =>
      rw [readStoreByte_of_refused (s := openEvent s) ho hs] at same hcycle
      exact ⟨hcycle, same.disk, same.raised⟩
    case unavailable =>
      rw [readStoreByte_of_closed (s := openEvent s) hc] at same hcycle
      exact ⟨hcycle, same.disk, same.raised, congrArg Store.pos same.store⟩

/-- Settles O45: the gate, and the store's two answers to the write. -/
theorem dataWriteStreams : Obligations.DataWriteStreams := by
  refine fun sync v => ⟨fun c hc => ⟨fun hv => decode_diskRegister hc hv 3#5 (by decide) sync (.write v),
    fun hv => decode_diskRegister hc hv 5#5 (by decide) sync (.write v)⟩, fun s i a hdir hwf hi => ?cycle⟩
  case cycle =>
    have hevent : exec i s = busWrite a sync v writeStoreByte s ∧ effect i = writeStoreByte v ∧ isDiskCycle i = true ∧
        raisesUnavailable i = true := by
      simp only [List.mem_cons, List.not_mem_nil, or_false, Prod.mk.injEq] at hi
      obtain ⟨rfl, rfl⟩ | ⟨rfl, rfl⟩ := hi <;> exact ⟨rfl, rfl, rfl, rfl⟩
    obtain ⟨hexec, heffect, hdisk, hraises⟩ := hevent
    obtain ⟨t, ht, same, htimer, hmem⟩ := exec_diskCycle hdisk hdir
    refine ⟨t, ht, writeCycle_of_busWrite (writeStoreByte_keepsFrame v) (hexec.symm.trans ht), fun ho hs => ?succeeds,
      fun ho hs => ?refused, fun hc => ?unavailable, htimer, hmem⟩
    case succeeds =>
      rw [heffect, writeStoreByte_of_succeeds (s := openEvent s) ho hs] at same
      have hbytes : t.store.bytes = s.store.bytes.write s.store.pos v := congrArg Store.bytes same.store
      refine ⟨?_, congrArg Store.pos same.store, fun k hk => ?_, same.disk, same.raised⟩
      · rw [hbytes, Memory.read_write_same hwf]
      · rw [hbytes, Memory.read_write_other _ hk]
    case refused =>
      rw [heffect, writeStoreByte_of_refused (s := openEvent s) ho hs] at same
      have hbytes : t.store.bytes = s.store.bytes := by rw [same.store]; rfl
      exact ⟨fun k => by rw [hbytes], same.disk, same.raised⟩
    case unavailable =>
      obtain ⟨hdisk, hstore, hraised⟩ := rejected_of_closed hraises same hc
      exact ⟨⟨congrArg Store.pos hstore, fun k => by rw [hstore]⟩, hdisk, hraised⟩

/-! ### DISK_STATUS and the accesses the register table does not list -/

/-- Settles O46: the read changes nothing; while the store is unavailable both clauses say 0x01, because `DiskInv` has the
status NOK there. -/
theorem statusReadAnswersTheStatus : Obligations.StatusReadAnswersTheStatus := by
  refine fun sync => ⟨fun c hc => ⟨fun hv => decode_diskRegister hc hv 4#5 (by decide) sync .read,
    fun hv => decode_diskRegister hc hv 6#5 (by decide) sync .read⟩, fun s i a hdir hi => ?cycle⟩
  case cycle =>
    have hexec : exec i s = busRead a sync readStatus s := by
      simp only [List.mem_cons, List.not_mem_nil, or_false, Prod.mk.injEq] at hi
      obtain ⟨rfl, rfl⟩ | ⟨rfl, rfl⟩ := hi <;> rfl
    rw [hexec]
    obtain ⟨t, ht, hnothing, hcycle⟩ := busRead_nothingElse (target := readStatus) hdir a sync rfl
    refine ⟨t, ht, hnothing, fun hinv => ?available, fun hc => ?unavailable⟩
    case available =>
      cases ho : s.cfg.storeOpen with
      | true => cases hd : s.disk.status <;> simpa [ho, hd, statusByte] using hcycle
      | false => simpa [ho, hinv.unavailable ho] using hcycle
    case unavailable => simpa [hc] using hcycle

/-- Settles O47: these accesses have the register operations of R100. -/
theorem unlistedDiskAccessesDoNothing : Obligations.UnlistedDiskAccessesDoNothing := by
  refine ⟨fun c sync d hc => ?words, fun sync d s hdir => ⟨fun i a hi => ?reads, ?writes⟩⟩
  case words =>
    exact ⟨decode_diskCommand hc sync .read, decode_diskParam0 hc sync .read, decode_diskParam1 hc sync .read,
      fun hv => decode_diskRegister hc hv 4#5 (by decide) sync (.write d), fun hv =>
      ⟨decode_diskRegister hc hv 3#5 (by decide) sync .read, decode_diskRegister hc hv 4#5 (by decide) sync .read,
        decode_diskRegister hc hv 6#5 (by decide) sync (.write d)⟩⟩
  case reads =>
    have hexec : exec i s = busRead a sync zeroRead s := by
      simp only [List.mem_cons, List.not_mem_nil, or_false, Prod.mk.injEq] at hi
      obtain ⟨rfl, rfl⟩ | ⟨rfl, rfl⟩ | ⟨rfl, rfl⟩ | ⟨rfl, rfl⟩ | ⟨rfl, rfl⟩ := hi <;> rfl
    rw [hexec]
    exact busRead_nothingElse hdir a sync rfl
  case writes => exact ⟨busWrite_ignoreWrite hdir _ sync d, busWrite_ignoreWrite hdir _ sync d⟩

end Sys2Proof.Machine
end

/-! ## The reference store (R229), and DISK_DATA accesses that stream through it (R231) -/

section
namespace Sys2Proof.Machine

/-! ### What the reference store answers -/

theorem seekSucceeds_reference {s : State} (href : s.cfg.storeKind = .reference) (off : Nat) :
    seekSucceeds off s = decide (off ≤ s.cfg.storeSize) := by
  simp [seekSucceeds, href]

theorem readSucceeds_reference {s : State} (href : s.cfg.storeKind = .reference) :
    readSucceeds s = decide (s.store.pos < s.cfg.storeSize) := by
  simp [readSucceeds, href]

theorem writeSucceeds_reference {s : State} (href : s.cfg.storeKind = .reference) :
    writeSucceeds s = (s.cfg.storeWritable && decide (s.store.pos < s.cfg.storeSize)) := by
  simp [writeSucceeds, href]

theorem storeSeek_fst (off : Nat) (s : State) : (storeSeek off s).1 = seekSucceeds off s := by
  obtain ⟨h, e⟩ | ⟨h, e⟩ := storeSeek_cases off s <;> rw [e, h]

theorem storeSeek_bytes (off : Nat) (s : State) : (storeSeek off s).2.store.bytes = s.store.bytes := by
  obtain ⟨-, e⟩ | ⟨-, e⟩ := storeSeek_cases off s <;> rw [e] <;> rfl

theorem storeSeek_pos {off : Nat} {s : State} (h : seekSucceeds off s = true) : (storeSeek off s).2.store.pos = off := by
  rw [storeSeek, if_pos h]
  rfl

theorem storeRead_bytes (s : State) : (storeRead s).2.store.bytes = s.store.bytes := by
  obtain ⟨-, e⟩ | ⟨-, e⟩ := storeRead_cases s <;> rw [e] <;> rfl

theorem storeRead_of_succeeds {s : State} (h : readSucceeds s = true) :
    storeRead s = (some (s.store.bytes.read s.store.pos), moveStore (s.store.pos + 1) s) :=
  if_pos h

theorem storeWrite_of_succeeds {s : State} (h : writeSucceeds s = true) (b : Byte) :
    storeWrite b s = (true, moveStore (s.store.pos + 1) (putStoreByte b s)) :=
  if_pos h

/-- The reference store stays where it is when it refuses a transfer. -/
theorem moveStore_posAfterRefusal {s : State} (href : s.cfg.storeKind = .reference) :
    (moveStore (posAfterRefusal s) s).store = s.store := by
  rw [posAfterRefusal_reference href, moveStore_store]

theorem storeRead_of_refused {s : State} (h : readSucceeds s = false) :
    storeRead s = (none, moveStore (posAfterRefusal s) s) :=
  if_neg (Bool.eq_false_iff.1 h)

theorem storeWrite_of_refused {s : State} (h : writeSucceeds s = false) (b : Byte) :
    storeWrite b s = (false, moveStore (posAfterRefusal s) s) :=
  if_neg (Bool.eq_false_iff.1 h)

/-- Settles O51: each call's answer is its condition on the position, and its state one of the two of that call. -/
theorem referenceStoreAnswers : Obligations.ReferenceStoreAnswers := by
  intro s off b href hwf
  have hread := readSucceeds_reference href
  have hwrite := writeSucceeds_reference href
  refine ⟨(storeSeek_fst off s).trans (seekSucceeds_reference href off), fun hoff => ?seekPos, storeSeek_bytes off s,
    fun hpos => ?readInside, fun hpos => ?readPast, storeRead_bytes s, fun hw hpos => ?writeInside, fun hrefuse => ?writeRefused⟩
  case seekPos => exact storeSeek_pos (by simpa [seekSucceeds_reference href] using hoff)
  case readInside =>
    rw [storeRead_of_succeeds (by simpa [hread] using hpos)]
    exact ⟨rfl, rfl⟩
  case readPast =>
    rw [storeRead_of_refused (by simpa [hread] using hpos)]
    exact ⟨rfl, congrArg Store.pos (moveStore_posAfterRefusal href)⟩
  case writeInside =>
    rw [storeWrite_of_succeeds (by simp [hwrite, hw, hpos])]
    exact ⟨rfl, rfl, Memory.read_write_same hwf _ b, fun k hk => Memory.read_write_other _ hk b⟩
  case writeRefused =>
    rw [storeWrite_of_refused (by simpa [hwrite, ← Bool.not_eq_true, imp_iff_not_or] using hrefuse)]
    exact ⟨rfl, moveStore_posAfterRefusal href⟩

/-! ### One DISK_DATA access inside the reference store -/

/-- A DISK_DATA access is a read, or a write of the byte it stores. -/
theorem isDiskData_cases {i : Instr} (h : isDiskData i = true) :
    (storedByte i = none ∧ (∀ s, effect i s = (readStoreByte s).2) ∧
      ∃ a sync, ∀ s, exec i s = busRead a sync readStoreByte s) ∨
    ∃ v, storedByte i = some v ∧ ∀ s, effect i s = writeStoreByte v s := by
  cases i with
  | diskDataRA sync => exact .inl ⟨rfl, fun _ => rfl, _, sync, fun _ => rfl⟩
  | diskDataRB sync => exact .inl ⟨rfl, fun _ => rfl, _, sync, fun _ => rfl⟩
  | diskDataWA sync v => exact .inr ⟨v, rfl, fun _ => rfl⟩
  | diskDataWB sync v => exact .inr ⟨v, rfl, fun _ => rfl⟩
  | _ => cases h

theorem isDiskCycle_of_isDiskData {i : Instr} (h : isDiskData i = true) : isDiskCycle i = true := by
  cases i with
  | diskDataRA => rfl
  | diskDataRB => rfl
  | diskDataWA => rfl
  | diskDataWB => rfl
  | _ => cases h

/-- An available, writable reference store, and the block between two cycles: the states R231 speaks of. -/
structure StreamReady (s : State) : Prop where
  addrDir   : s.xcvr.addrDir = .sample
  isOpen    : s.cfg.storeOpen = true
  reference : s.cfg.storeKind = .reference
  writable  : s.cfg.storeWritable = true
  wf        : s.store.bytes.wf = true

theorem StreamReady.next {i : Instr} (hi : isDiskCycle i = true) {s t : State} (h : StreamReady s)
    (ht : exec i s = .next t) : StreamReady t := by
  have hb := isBusCycle_of_isDiskCycle hi
  obtain ⟨hcfg, -, hdir, -⟩ := exec_sameInputs hb ht
  refine ⟨hdir.trans h.addrDir, hcfg ▸ h.isOpen, hcfg ▸ h.reference, hcfg ▸ h.writable, ?_⟩
  rw [(exec_effect hb ht).store]
  exact effect_storeWf i (s := openEvent s) h.wf

/-- SEEK to a block inside the store. -/
theorem exec_seek_inside {s : State} (h : StreamReady s) (sync : Bool)
    (hin : blockNumber s.disk.param * 512 ≤ s.cfg.storeSize) :
    ∃ t, exec (.diskSeek sync) s = .next t ∧ StreamReady t ∧ t.cfg = s.cfg ∧ t.disk.status = .ok ∧
      t.store.pos = blockNumber s.disk.param * 512 ∧ t.store.bytes = s.store.bytes := by
  obtain ⟨t, ht, same, -, -⟩ := exec_diskCycle (i := .diskSeek sync) rfl h.addrDir
  have hbytes := bytes_of_effect rfl same
  have haccepted : seekSucceeds (blockNumber s.disk.param * 512) s = true := by
    simpa [seekSucceeds_reference h.reference] using hin
  rw [effect, seekDisk_of_accepted (s := openEvent s) h.isOpen haccepted] at same
  exact ⟨t, ht, h.next rfl ht, same.cfg, congrArg Disk.status same.disk, congrArg Store.pos same.store, hbytes⟩

/-- One DISK_DATA access inside the store: the position advances by 1, and only the byte there can change, to the byte the
access stores; a read answers the byte there. -/
theorem exec_diskData_inside {i : Instr} (hi : isDiskData i = true) {s : State} (h : StreamReady s)
    (hin : s.store.pos < s.cfg.storeSize) :
    ∃ t, exec i s = .next t ∧ StreamReady t ∧ t.cfg = s.cfg ∧ t.disk.status = .ok ∧ t.store.pos = s.store.pos + 1 ∧
      t.store.bytes.read s.store.pos = (storedByte i).getD (s.store.bytes.read s.store.pos) ∧
      (∀ k, k ≠ s.store.pos → t.store.bytes.read k = s.store.bytes.read k) ∧
      (storedByte i = none → t.xcvr.dataOut = s.store.bytes.read s.store.pos) := by
  have hcycle := isDiskCycle_of_isDiskData hi
  obtain ⟨t, ht, same, -, -⟩ := exec_diskCycle hcycle h.addrDir
  refine ⟨t, ht, h.next hcycle ht, ?_⟩
  obtain ⟨hstored, heffect, a, sync, hexec⟩ | ⟨v, hstored, heffect⟩ := isDiskData_cases hi
  · have haccepted : readSucceeds (openEvent s) = true := by
      simp [readSucceeds_reference (s := openEvent s) h.reference, hin]
    have hanswer := readStoreByte_of_succeeds (s := openEvent s) h.isOpen haccepted
    have hdata : t.xcvr.dataOut = s.store.bytes.read s.store.pos := by
      rw [busRead_dataOut ((hexec s).symm.trans ht), hanswer]
      rfl
    have hbytes := bytes_of_effect hstored same
    rw [heffect, hanswer] at same
    exact ⟨same.cfg, congrArg Disk.status same.disk, congrArg Store.pos same.store, by rw [hbytes, hstored]; rfl,
      fun k _ => by rw [hbytes], fun _ => hdata⟩
  · have haccepted : writeSucceeds (openEvent s) = true := by
      simp [writeSucceeds_reference (s := openEvent s) h.reference, h.writable, hin]
    rw [heffect, writeStoreByte_of_succeeds (s := openEvent s) h.isOpen haccepted] at same
    have hbytes : t.store.bytes = s.store.bytes.write s.store.pos v := congrArg Store.bytes same.store
    refine ⟨same.cfg, congrArg Disk.status same.disk, congrArg Store.pos same.store, ?_, fun k hk => ?_, fun hnone => ?_⟩
    · rw [hbytes, hstored, Memory.read_write_same h.wf]
      rfl
    · rw [hbytes, Memory.read_write_other _ hk]
    · rw [hstored] at hnone
      cases hnone

/-! ### A run of DISK_DATA accesses -/

/-- `t` is where the accesses `l` have left the store of `s`, one offset each from `base` on. -/
structure Streamed (s : State) (base : Nat) (l : List Instr) (t : State) : Prop where
  ready  : StreamReady t
  cfg    : t.cfg = s.cfg
  status : t.disk.status = .ok
  pos    : t.store.pos = base + l.length
  below  : ∀ k, k < base → t.store.bytes.read k = s.store.bytes.read k
  bytes  : ∀ k, t.store.bytes.read (base + k) = ((l[k]?).bind storedByte).getD (s.store.bytes.read (base + k))

/-- One more access moves the stream on by one offset; a read answers the byte that stood at its offset. -/
theorem Streamed.access {s u : State} {base : Nat} {l : List Instr} (h : Streamed s base l u) {i : Instr}
    (hi : isDiskData i = true) (hin : base + l.length < s.cfg.storeSize) :
    ∃ t, exec i u = .next t ∧ Streamed s base (l ++ [i]) t ∧
      (storedByte i = none → t.xcvr.dataOut = s.store.bytes.read (base + l.length)) := by
  have hold : u.store.bytes.read u.store.pos = s.store.bytes.read (base + l.length) := by
    simp [h.pos, h.bytes]
  obtain ⟨t, ht, hready, hcfg, hstatus, hpos, hsame, hother, hanswer⟩ :=
    exec_diskData_inside hi h.ready (by rwa [h.pos, h.cfg])
  rw [h.pos] at hpos hother
  refine ⟨t, ht, ⟨hready, hcfg.trans h.cfg, hstatus, ?pos, fun k hk => ?below, fun k => ?bytes⟩, fun hnone => ?answer⟩
  case pos => simp [hpos, Nat.add_assoc]
  case below => rw [hother k (by omega), h.below k hk]
  case bytes =>
    obtain hk | rfl := ne_or_eq k l.length
    · have : (l ++ [i])[k]? = l[k]? := by grind
      rw [hother (base + k) (by omega), h.bytes, this]
    · rw [← h.pos, hsame, hold, h.pos, List.getElem?_concat_length]
      rfl
  case answer => rw [hanswer hnone, hold]

/-- SEEK and any accesses that stay inside the store: the run completes, and streams from the block. -/
theorem runEvents_streams {s : State} (h : StreamReady s) (sync : Bool) (l : List Instr)
    (hl : ∀ i ∈ l, isDiskData i = true) (hin : blockNumber s.disk.param * 512 + l.length ≤ s.cfg.storeSize) :
    ∃ t, runEvents (.diskSeek sync :: l) s = .next t ∧ Streamed s (blockNumber s.disk.param * 512) l t := by
  induction l using List.reverseRecOn with
  | nil =>
    obtain ⟨t, ht, hready, hcfg, hstatus, hpos, hbytes⟩ := exec_seek_inside h sync (by simpa using hin)
    exact ⟨t, runEvents_cons_of_next ht [], hready, hcfg, hstatus, by simpa using hpos, fun k _ => by rw [hbytes],
      fun k => by simp [hbytes]⟩
  | append_singleton l i ih =>
    simp only [List.forall_mem_append, List.forall_mem_singleton] at hl
    rw [List.length_append, List.length_singleton] at hin
    obtain ⟨u, hu, hstreamed⟩ := ih hl.1 (by omega)
    obtain ⟨t, ht, hnext, -⟩ := hstreamed.access hl.2 (by omega)
    exact ⟨t, runEvents_concat hu ht, hnext⟩

/-- Settles O49: the run streams (`runEvents_streams`), and so does the part of it before its last access, from which that
access answers as `Streamed.access` says. -/
theorem dataAccessesStreamFromTheBlock : Obligations.DataAccessesStreamFromTheBlock := by
  intro s sync l hdir hopen href hwritable hwf hl hin
  have hready : StreamReady s := ⟨hdir, hopen, href, hwritable, hwf⟩
  obtain ⟨t, ht, hstreamed⟩ := runEvents_streams hready sync l hl hin
  refine ⟨t, ht, hstreamed.pos, hstreamed.status, hstreamed.below, hstreamed.bytes, ?_⟩
  rintro l' i rfl hnone
  simp only [List.forall_mem_append, List.forall_mem_singleton] at hl
  rw [List.length_append, List.length_singleton] at hin
  obtain ⟨u, hu, hbefore⟩ := runEvents_streams hready sync l' hl.1 (by omega)
  obtain ⟨t', ht', -, hanswer⟩ := hbefore.access hl.2 (by omega)
  obtain rfl : t' = t := Host.Outcome.next.inj ((runEvents_concat hu ht').symm.trans ht)
  exact hanswer hnone

end Sys2Proof.Machine
end

/-! ## The Dispatcher's events (R260 to R266): every one completes, and the data bus follows what each needs -/

section
namespace Sys2Proof.Machine

theorem exec_init_of_initOpen {s : State} (h : s.initOpen = true) : exec .init s = .next (initialState s) := if_pos h

/-- Settles O17, by the kinds of events: INIT while it is admitted, TICK, and the bus cycles. -/
theorem theDispatcherNeverBlocks : Obligations.TheDispatcherNeverBlocks := by
  intro i s hdir hreserved hinit
  obtain rfl | rfl | rfl | hb := isBusCycle_cases i
  · exact ⟨_, exec_init_of_initOpen (hinit rfl), rfl⟩
  · exact ⟨_, exec_tick s, hdir⟩
  · exact absurd rfl hreserved
  · obtain ⟨t, ht, hsample, -⟩ := exec_ready hb hdir
    exact ⟨t, ht, hsample⟩

/-! ### The direction policy (R264) -/

theorem isBusCycle_of_neededDirection {i : Instr} {d : Direction} (h : neededDirection i = some d) :
    isBusCycle i = true := by
  rw [isBusCycle, h]
  rfl

/-- A cycle leaves the data bus in the direction it needs, at the cost of that switch. -/
theorem exec_dataDirection {i : Instr} {d : Direction} (hd : neededDirection i = some d) {s t : State}
    (h : exec i s = .next t) : t.xcvr.dataDir = d ∧ t.switches = s.switches + switchCost s.xcvr.dataDir d := by
  obtain ⟨hneed, _, _, _, _, hexec, hkeep⟩ | ⟨hneed, _, _, _, hexec, hkeep⟩ :=
    exec_busCycle i (isBusCycle_of_neededDirection hd)
  · cases hd.symm.trans hneed
    obtain ⟨-, hdir, -, hswitches, -⟩ := writeCycle_of_busWrite hkeep ((hexec s).symm.trans h)
    exact ⟨hdir, hswitches⟩
  · cases hd.symm.trans hneed
    obtain ⟨-, hdir, -, hswitches, -⟩ := readCycle_of_busRead hkeep ((hexec s).symm.trans h)
    exact ⟨hdir, hswitches⟩

/-- What one event of a trace does to the data bus: one that needs no direction leaves it. -/
theorem exec_followsDirection {i : Instr} (hi : isBusCycle i = true ∨ i = .tick) {s : State}
    (hdir : s.xcvr.addrDir = .sample) :
    ∃ t, exec i s = .next t ∧ t.xcvr.addrDir = .sample ∧
      t.xcvr.dataDir = (neededDirection i).getD s.xcvr.dataDir ∧
      t.switches = s.switches + (neededDirection i).elim 0 (switchCost s.xcvr.dataDir) := by
  obtain hb | rfl := hi
  · obtain ⟨d, hd⟩ := Option.isSome_iff_exists.1 hb
    obtain ⟨t, ht, hsample, -⟩ := exec_ready hb hdir
    rw [hd]
    exact ⟨t, ht, hsample, exec_dataDirection hd ht⟩
  · exact ⟨_, exec_tick s, hdir, rfl, rfl⟩

theorem directionChanges_cons (d : Direction) (i : Instr) (l : List Instr) :
    directionChanges d (i :: l) =
      (neededDirection i).elim 0 (switchCost d) + directionChanges ((neededDirection i).getD d) l := by
  cases h : neededDirection i <;> simp [directionChanges, h]

/-- The last direction a trace needs, or `d` if it needs none, from the first event on. -/
theorem lastDirection_cons (d : Direction) (i : Instr) (l : List Instr) :
    ((i :: l).filterMap neededDirection).getLast?.getD d =
      (l.filterMap neededDirection).getLast?.getD ((neededDirection i).getD d) := by
  cases h : neededDirection i <;> simp [h, List.getLast?_cons]

/-- Settles O25, by induction on the trace: each event follows the direction it needs, and the rest of the trace starts from
there. -/
theorem switchesAreTheDirectionChanges : Obligations.SwitchesAreTheDirectionChanges := by
  intro l
  induction l with
  | nil => exact fun s _ _ => ⟨s, rfl, rfl, rfl⟩
  | cons i l ih =>
    intro s hdir hl
    obtain ⟨u, hu, hudir, hdata, hswitches⟩ := exec_followsDirection (hl i List.mem_cons_self) hdir
    obtain ⟨t, ht, htswitches, htdata⟩ := ih u hudir fun j hj => hl j (List.mem_cons_of_mem i hj)
    refine ⟨t, (runEvents_cons_of_next hu l).trans ht, ?switches, ?direction⟩
    case switches => rw [htswitches, hswitches, hdata, directionChanges_cons, Nat.add_assoc]
    case direction => rw [htdata, hdata, lastDirection_cons]

/-! ### What stands on the lines after an event (R269) -/

theorem drivenLines_of_sample {s : State} (h : s.xcvr.dataDir = .sample) (L : Lines) : drivenLines s L = L := by
  simp [drivenLines, h]

theorem irqLevel_eq_asserted_iff (s : State) : irqLevel s = s.cfg.polarity.irq ↔ s.timer.irq = true := by
  unfold irqLevel
  split
  · next h => exact iff_of_true rfl h
  · next h => exact iff_of_false (Bool.not_ne_self _) h

/-- Settles O26: the cycle leaves the data bus in the direction it needs, which decides what the data lines carry; the
interrupt line's level is decided in every state. -/
theorem whatTheLinesCarry : Obligations.WhatTheLinesCarry := by
  intro i s t L hw h
  refine ⟨fun hread => ?read, fun hwrite => ?write, irqLevel_eq_asserted_iff t⟩
  case read =>
    obtain ⟨-, hlen, -, hnodup, -⟩ := wiringWf_lines hw
    obtain ⟨hcfg, -⟩ := exec_sameInputs (isBusCycle_of_neededDirection hread) h
    rw [drivenLines_of_drive (exec_dataDirection hread h).1, hcfg, gatherData_scatterData hlen hnodup]
  case write => exact drivenLines_of_sample (exec_dataDirection hwrite h).1 L

end Sys2Proof.Machine
end

/-! ## The opcode-fetch flag (R265, D21) -/

section
namespace Sys2Proof.Machine

/-! ### An event and its counterpart with the other flag are one cycle -/

/-- Whatever the flag, the event is the same read or the same write: same address, byte and register operation. -/
inductive OneCycle (i : Bool → Instr) : Prop where
  | read (a : Addr) (target : State → Byte × State) (h : ∀ sync s, exec (i sync) s = busRead a sync target s)
  | write (a : Addr) (d : Byte) (target : Byte → State → State)
      (h : ∀ sync s, exec (i sync) s = busWrite a sync d target s)

theorem OneCycle.of_busAccess {i : Bool → Instr} {a : Addr} {acc : Access} {onRead : State → Byte × State}
    {onWrite : Byte → State → State} (h : ∀ sync s, exec (i sync) s = busAccess a sync acc onRead onWrite s) :
    OneCycle i := by
  cases acc with
  | read => exact .read a onRead h
  | write d => exact .write a d onWrite h

/-- The outcomes for the two flags differ at most in the flag. -/
theorem OneCycle.withoutFetchFlag_eq {i : Bool → Instr} (h : OneCycle i) (sync sync' : Bool) (s : State) :
    withoutFetchFlag (exec (i sync) s) = withoutFetchFlag (exec (i sync') s) := by
  cases h with
  | read a target h =>
    rw [h, h]
    cases hdir : s.xcvr.addrDir with
    | sample => rw [busRead_eq hdir, busRead_eq hdir]; rfl
    | drive => rw [busRead_misuse hdir, busRead_misuse hdir]
  | write a d target h =>
    rw [h, h]
    cases hdir : s.xcvr.addrDir with
    | sample => rw [busWrite_eq hdir, busWrite_eq hdir]; rfl
    | drive => rw [busWrite_misuse hdir, busWrite_misuse hdir]

/-- The record of the cycle holds the flag. -/
theorem OneCycle.isOpcodeFetch {i : Bool → Instr} (h : OneCycle i) {sync : Bool} {s t : State}
    (ht : exec (i sync) s = .next t) : ∃ r, t.bus = some r ∧ r.isOpcodeFetch = sync := by
  cases h with
  | read a target h =>
    obtain ⟨-, rfl⟩ := busRead_next ((h sync s).symm.trans ht)
    exact ⟨_, rfl, rfl⟩
  | write a d target h =>
    obtain ⟨-, rfl⟩ := busWrite_next ((h sync s).symm.trans ht)
    exact ⟨_, rfl, rfl⟩

/-! ### Every bus cycle the decoder answers is one (R92, R99) -/

theorem oneCycle_diskCommandInstr (acc : Access) : OneCycle (diskCommandInstr · acc) := by
  cases acc with
  | read => exact .read _ _ fun _ _ => rfl
  | write d =>
    simp only [diskCommandInstr]
    split_ifs <;> exact .write _ _ _ fun _ _ => rfl

theorem oneCycle_diskParamInstr (k : Nat) (acc : Access) : OneCycle (diskParamInstr k · acc) := by
  cases acc with
  | read => simp only [diskParamInstr]; split_ifs <;> exact .read _ _ fun _ _ => rfl
  | write d => simp only [diskParamInstr]; split_ifs <;> exact .write _ _ _ fun _ _ => rfl

theorem oneCycle_diskDataInstr (v : Variant) (acc : Access) : OneCycle (diskDataInstr v · acc) := by
  cases acc with
  | read => cases v <;> exact .read _ _ fun _ _ => rfl
  | write d => cases v <;> exact .write _ _ _ fun _ _ => rfl

theorem oneCycle_diskStatusInstr (v : Variant) (acc : Access) : OneCycle (diskStatusInstr v · acc) := by
  cases acc with
  | read => cases v <;> exact .read _ _ fun _ _ => rfl
  | write d => cases v <;> exact .write _ _ _ fun _ _ => rfl

theorem oneCycle_diskInstr (v : Variant) (off : Byte) (acc : Access) : OneCycle (diskInstr v off · acc) := by
  simp only [diskInstr]
  split_ifs
  · exact oneCycle_diskCommandInstr acc
  · exact oneCycle_diskParamInstr _ acc
  · exact oneCycle_diskDataInstr v acc
  · exact oneCycle_diskStatusInstr v acc
  · exact .of_busAccess fun _ _ => rfl

theorem oneCycle_timerInstr (off : Byte) (acc : Access) : OneCycle (timerInstr off · acc) := by
  simp only [timerInstr]
  split
  case h_1 | h_3 | h_5 | h_7 | h_9 | h_11 => exact .read _ _ fun _ _ => rfl
  case h_2 | h_4 | h_6 | h_8 | h_10 | h_12 => exact .write _ _ _ fun _ _ => rfl
  case h_13 => exact .of_busAccess fun _ _ => rfl

theorem oneCycle_memInstr (a : Addr) (acc : Access) : OneCycle (memInstr a · acc) := by
  cases acc with
  | read => exact .read a (fun t => (memRead a t, t)) fun _ _ => rfl
  | write d => exact .write _ _ _ fun _ _ => rfl

theorem oneCycle_busInstr (c : Config) (a : Addr) (acc : Access) : OneCycle (busInstr c · a acc) := by
  simp only [busInstr]
  split
  · exact oneCycle_memInstr a acc
  · exact oneCycle_diskInstr _ _ acc
  · exact oneCycle_timerInstr _ acc

/-! ### The word with the sync bit flipped -/

/-- Flipping bit 25 leaves every field but `sync` (R90). -/
theorem flipSync_eq (w : EventWord) :
    w ^^^ 0x2000000#28 = eventWord (kindOf w) (!syncOf w) (rwOf w) (addrOf w) (dataOf w) := by
  rw [← eventWord_fields (w ^^^ 0x2000000#28), eventWord_inj]
  simp only [kindOf, syncOf, rwOf, addrOf, dataOf, BitVec.extractLsb'_xor, BitVec.getLsbD_xor]
  refine ⟨?_, ?_, ?_, ?_, ?_⟩ <;> simp

theorem decode_flipSync {w : EventWord} (h : kindOf w = 0#2) (c : Config) :
    decode c (w ^^^ 0x2000000#28) = busInstr c (!syncOf w) (addrOf w) (accessOf (rwOf w) (dataOf w)) := by
  rw [flipSync_eq, decode_busCycle (by simpa using h)]
  simp

/-- Settles O18: the word and the flipped one decode to one cycle with its two flags. -/
theorem opcodeFetchChangesNothing : Obligations.OpcodeFetchChangesNothing := by
  intro s w hkind
  have hcycle := oneCycle_busInstr s.cfg (addrOf w) (accessOf (rwOf w) (dataOf w))
  rw [decode_flipSync hkind, decode_busCycle hkind]
  exact ⟨hcycle.withoutFetchFlag_eq _ _ s, fun t ht => hcycle.isOpcodeFetch ht⟩

end Sys2Proof.Machine
end

/-! ## A bus cycle on the physical lines (R122 to R125, R129, R260) -/

section
namespace Sys2Proof.Machine

theorem configWf_wiring {c : Config} (h : configWf c = true) : wiringWf c.wiring = true := by
  simp only [configWf, Bool.and_eq_true] at h
  obtain ⟨⟨⟨-, hwiring⟩, -⟩, -⟩ := h
  exact hwiring

/-! ### What the CPU puts on the lines is what the block senses -/

/-- A gathered value depends on its own lines alone. -/
theorem gather_congr {ns : List Nat} {L L' : Lines} (h : ∀ n ∈ ns, L n = L' n) : gather ns L = gather ns L' := by
  induction ns with
  | nil => rfl
  | cons n ns ih =>
    rw [gather, gather, h n List.mem_cons_self, ih fun m hm => h m (List.mem_cons_of_mem n hm)]

/-- What is put on the address lines leaves the data lines. -/
theorem gatherData_scatterAddr {w : Wiring} (hw : w.addrLine.Disjoint w.dataLine) (a : Addr) (L : Lines) :
    gatherData w (scatterAddr w a L) = gatherData w L := by
  have hlines : gather w.dataLine (scatterAddr w a L) = gather w.dataLine L :=
    gather_congr fun _ hdata => scatter_of_notMem (fun haddr => hw haddr hdata) _ L
  rw [gatherData, hlines, gatherData]

theorem readControl_controlOf (p : Polarity) (w : EventWord) : readControl p (controlOf p w) = (rwOf w, syncOf w) := by
  cases hrw : rwOf w <;> cases hsync : syncOf w <;> simp [readControl, controlOf, hrw, hsync]

theorem gatherAddr_cpuLines {wr : Wiring} (hw : wiringWf wr = true) (w : EventWord) (L : Lines) :
    gatherAddr wr (cpuLines wr w L) = addrOf w := by
  obtain ⟨hlen, -, hnodup, -⟩ := wiringWf_lines hw
  exact gatherAddr_scatterAddr hlen hnodup _ _

theorem gatherData_cpuLines {wr : Wiring} (hw : wiringWf wr = true) {w : EventWord} (hrw : rwOf w = false) (L : Lines) :
    gatherData wr (cpuLines wr w L) = dataOf w := by
  obtain ⟨-, hlen, -, hnodup, hdisjoint⟩ := wiringWf_lines hw
  simp only [cpuLines, hrw, Bool.false_eq_true, if_false]
  rw [gatherData_scatterAddr hdisjoint, gatherData_scatterData hlen hnodup]

/-- The sensed word has the fields of the word performed, but for the data bits of a READ, which no line carries. -/
theorem sensedWord_cpuLines {c : Config} (hw : wiringWf c.wiring = true) (w : EventWord) (L : Lines) :
    sensedWord c (controlOf c.polarity w) (cpuLines c.wiring w L) =
      accessWord (syncOf w) (addrOf w) (accessOf (rwOf w) (dataOf w)) := by
  unfold sensedWord
  rw [readControl_controlOf, gatherAddr_cpuLines hw]
  cases hrw : rwOf w with
  | true => rfl
  | false => rw [gatherData_cpuLines hw hrw]; rfl

/-- Settles O22: the sensed word decodes as the word performed does, and the transceiver gathers that word's fields. -/
theorem physicalCycleIsTheLogicalEvent : Obligations.PhysicalCycleIsTheLogicalEvent := by
  intro s w L hc hkind
  have hw := configWf_wiring hc
  refine ⟨?event, ?address, fun hrw => ?data⟩
  case event => rw [busCycleOnLines, sensedWord_cpuLines hw, decode_accessWord, decode_busCycle hkind]
  case address => rw [readAddress, gatherAddr_cpuLines hw]
  case data => rw [readData, gatherData_cpuLines hw hrw]

end Sys2Proof.Machine
end

/-! ## The memory cycles (R261, R262) -/

section
namespace Sys2Proof.Machine

/-- Settles O53: the operation of MEM.R answers the cell and keeps the state. -/
theorem memoryReadAnswersTheCell : Obligations.MemoryReadAnswersTheCell := fun sync a =>
  ⟨fun _ hport => decode_memory hport sync .read,
    fun _ hdir => busRead_nothingElse (target := fun t => (memRead a t, t)) hdir a sync rfl⟩

/-- Settles O54: MEM.W's effect is the write of one cell, and its cycle is a write cycle around that. -/
theorem memoryWriteStoresOneByte : Obligations.MemoryWriteStoresOneByte := by
  refine fun sync a v => ⟨fun c hport => decode_memory hport sync (.write v), fun s hdir hwf => ?_⟩
  obtain ⟨t, ht⟩ := exec_completes (i := .memW sync a v) rfl hdir
  have hmem : t.mem = s.mem.write (memIndex s.cfg a) v := exec_mem (i := .memW sync a v) nofun ht
  have same := exec_effect rfl ht
  refine ⟨t, ht, ?written, fun k hk => ?others, same.timer, same.disk, sameStore_of_effect same nofun rfl, same.raised,
    ?cycle⟩
  case written => exact hmem ▸ Memory.read_write_same hwf _ v
  case others => exact hmem ▸ Memory.read_write_other s.mem hk v
  case cycle => exact writeCycle_of_busWrite (target := memWrite a) (fun _ => ⟨rfl, rfl, rfl, rfl, rfl, rfl⟩) ht

end Sys2Proof.Machine
end

/-! ## The interrupt line (R297 to R299): what asserts it and what deasserts it -/

section
namespace Sys2Proof.Machine

/-- The events that assert the line (R298): a TICK that ends a period of `t`, and a write to TIMER_TRIG. -/
def AssertsLine (i : Instr) (t : Timer) : Prop :=
  (i = .tick ∧ t.mode ≠ .paused ∧ (t.target.setWidth 16).toInt ≤ (t.ticks + 1#16).toInt) ∨
  ∃ sync d, i = .timerTrigW sync d

/-- The events that deassert the line (R299): the three writes that acknowledge, and INIT. -/
def DeassertsLine (i : Instr) : Prop :=
  (∃ sync d, i = .timerTargetW sync d) ∨ (∃ sync d, i = .timerResetW sync d) ∨ (∃ sync d, i = .timerContW sync d) ∨
  i = .init

/-- No event does both. -/
theorem AssertsLine.not_deassertsLine {i : Instr} {t : Timer} (h : AssertsLine i t) : ¬ DeassertsLine i := by
  obtain ⟨rfl, -⟩ | ⟨sync, d, rfl⟩ := h <;> simp [DeassertsLine]

theorem assertsLine_tick_iff {t : Timer} :
    AssertsLine .tick t ↔ t.mode ≠ .paused ∧ periodElapsed (t.ticks + 1#16) t.target = true := by
  rw [periodElapsed_iff_toInt_le]
  simp only [AssertsLine, true_and, reduceCtorEq, exists_false, or_false]

/-- After a TICK the line is asserted if the TICK ended a period, or if it was. -/
theorem tickTimer_irq_iff (t : Timer) : (tickTimer t).irq = true ↔ AssertsLine .tick t ∨ t.irq = true := by
  rw [assertsLine_tick_iff]
  by_cases hmode : t.mode = .paused
  · simp [tickTimer_of_paused, hmode]
  · by_cases h : periodElapsed (t.ticks + 1#16) t.target = true
    · simp [tickTimer_of_elapsed, assertIrq, hmode, h]
    · simp [tickTimer_of_not_elapsed, hmode, h]

/-- After a bus cycle the line is asserted if the cycle asserts it, or if it was and the cycle does not deassert it. -/
theorem timerEffect_irq_iff {i : Instr} (hb : isBusCycle i = true) (t : Timer) :
    (timerEffect i t).irq = true ↔ AssertsLine i t ∨ (t.irq = true ∧ ¬ DeassertsLine i) := by
  cases i with
  | init => cases hb
  | tick => cases hb
  | timerTrigW sync d => exact iff_of_true rfl (.inl (.inr ⟨sync, d, rfl⟩))
  | timerTargetW | timerResetW | timerContW => simp [timerEffect, acknowledgeIrq, AssertsLine, DeassertsLine]
  | _ => simp [timerEffect, AssertsLine, DeassertsLine]

/-- If INIT has a next state, it is the one INIT constructs (R330). -/
theorem exec_init_next {s t : State} (h : exec .init s = .next t) : t = initialState s := by
  cases hopen : s.initOpen with
  | true => exact Host.Outcome.next.inj (h.symm.trans (exec_init_of_initOpen hopen))
  | false =>
    have hrefused : exec .init s = .refused .secondInit := if_neg (by simp [hopen])
    cases hrefused.symm.trans h

/-- The line after any event that has a next state: the event asserts it, or it was asserted and the event leaves it so. -/
theorem exec_irq_iff {i : Instr} {s t : State} (h : exec i s = .next t) :
    t.timer.irq = true ↔ AssertsLine i s.timer ∨ (s.timer.irq = true ∧ ¬ DeassertsLine i) := by
  obtain rfl | rfl | rfl | hb := isBusCycle_cases i
  · obtain rfl := exec_init_next h
    simp [initialState, initialTimer, AssertsLine, DeassertsLine]
  · obtain rfl := Host.Outcome.next.inj ((exec_tick s).symm.trans h)
    simp [tickTimer_irq_iff, DeassertsLine]
  · cases h
  · rw [exec_timer hb h, timerEffect_irq_iff hb]

/-- Settles O38: a deasserted line has no other way to be asserted than an event that asserts it. -/
theorem whatAssertsTheLine : Obligations.WhatAssertsTheLine := by
  intro i s t h hirq
  change t.timer.irq = true ↔ AssertsLine i s.timer
  rw [exec_irq_iff h, hirq]
  simp only [Bool.false_eq_true, false_and, or_false]

/-- Settles O39: an asserted line stays asserted unless the event deasserts it, and such an event does not assert it. -/
theorem whatDeassertsTheLine : Obligations.WhatDeassertsTheLine := by
  intro i s t h hirq
  change t.timer.irq = false ↔ DeassertsLine i
  calc t.timer.irq = false
      ↔ ¬ (AssertsLine i s.timer ∨ (s.timer.irq = true ∧ ¬ DeassertsLine i)) := by
        rw [← exec_irq_iff h, Bool.not_eq_true]
    _ ↔ ¬ AssertsLine i s.timer ∧ DeassertsLine i := by rw [not_or, not_and, not_not, imp_iff_right hirq]
    _ ↔ DeassertsLine i := and_iff_right_of_imp fun hd ha => ha.not_deassertsLine hd

end Sys2Proof.Machine
end

/-! ## The disk and the rest of the block (R296): an event that is no disk cycle does not depend on the disk -/

section
namespace Sys2Proof.Machine

/-- Replaces the disk registers, the store and the draw count: in a next state, what `withDisk` does to an outcome. -/
def putDisk (d : Disk) (st : Store) (n : Nat) (s : State) : State := { s with disk := d, store := st, draws := n }

theorem openEvent_putDisk (d : Disk) (st : Store) (n : Nat) (s : State) :
    openEvent (putDisk d st n s) = putDisk d st n (openEvent s) := rfl

theorem putDisk_xcvr (d : Disk) (st : Store) (n : Nat) (s : State) : (putDisk d st n s).xcvr = s.xcvr := rfl

theorem needDataDirection_putDisk (dir : Direction) (d : Disk) (st : Store) (n : Nat) (s : State) :
    needDataDirection dir (putDisk d st n s) = putDisk d st n (needDataDirection dir s) := by
  unfold needDataDirection
  rw [putDisk_xcvr]
  split <;> rfl

/-- A write cycle has the same outcome around another disk, if its target operation does. -/
theorem busWrite_putDisk {d : Disk} {st : Store} {n : Nat} {v : Byte} {target : Byte → State → State}
    (htarget : ∀ s, target v (putDisk d st n s) = putDisk d st n (target v s)) (a : Addr) (sync : Bool) (s : State) :
    busWrite a sync v target (putDisk d st n s) = withDisk d st n (busWrite a sync v target s) := by
  cases hdir : s.xcvr.addrDir with
  | drive => rw [busWrite_misuse hdir, busWrite_misuse (s := putDisk d st n s) hdir]; rfl
  | sample =>
    rw [busWrite_eq hdir, busWrite_eq (s := putDisk d st n s) hdir, openEvent_putDisk, needDataDirection_putDisk, htarget]
    rfl

/-- A read cycle has the same outcome around another disk, if its target operation answers the same byte and does the
same. -/
theorem busRead_putDisk {d : Disk} {st : Store} {n : Nat} {target : State → Byte × State}
    (htarget : ∀ s, target (putDisk d st n s) = ((target s).1, putDisk d st n (target s).2)) (a : Addr) (sync : Bool)
    (s : State) : busRead a sync target (putDisk d st n s) = withDisk d st n (busRead a sync target s) := by
  cases hdir : s.xcvr.addrDir with
  | drive => rw [busRead_misuse hdir, busRead_misuse (s := putDisk d st n s) hdir]; rfl
  | sample =>
    rw [busRead_eq hdir, busRead_eq (s := putDisk d st n s) hdir, openEvent_putDisk, htarget, needDataDirection_putDisk]
    rfl

/-- A timer access or a memory cycle has the same outcome around another disk: each register operation of theirs reads and
writes only the timer or the memory. -/
theorem exec_putDisk {i : Instr} (hb : isBusCycle i = true) (hi : isDiskCycle i = false) (d : Disk) (st : Store) (n : Nat)
    (s : State) : exec i (putDisk d st n s) = withDisk d st n (exec i s) := by
  have zero : ∀ s, zeroRead (putDisk d st n s) = ((zeroRead s).1, putDisk d st n (zeroRead s).2) := fun _ => rfl
  cases i with
  | init => cases hb
  | tick => cases hb
  | reservedKind => cases hb
  | timerTargetW sync v => exact busWrite_putDisk (target := writeTarget) (fun _ => rfl) _ sync s
  | timerCountW sync v => exact busWrite_putDisk (target := ignoreWrite) (fun _ => rfl) _ sync s
  | timerResetW sync v => exact busWrite_putDisk (target := fun _ => resetPeriod) (fun _ => rfl) _ sync s
  | timerTrigW sync v => exact busWrite_putDisk (target := fun _ => triggerNow) (fun _ => rfl) _ sync s
  | timerPauseW sync v => exact busWrite_putDisk (target := fun _ => pauseTimer) (fun _ => rfl) _ sync s
  | timerContW sync v => exact busWrite_putDisk (target := fun _ => resumeTimer) (fun _ => rfl) _ sync s
  | timerCountR sync => exact busRead_putDisk (target := readCount) (fun _ => rfl) _ sync s
  | timerTargetR sync | timerResetR sync | timerTrigR sync | timerPauseR sync | timerContR sync =>
    exact busRead_putDisk zero _ sync s
  | timerInvalid sync off acc =>
    cases acc with
    | read => exact busRead_putDisk zero _ sync s
    | write v => exact busWrite_putDisk (target := ignoreWrite) (fun _ => rfl) _ sync s
  | memR sync a => exact busRead_putDisk (target := fun t => (memRead a t, t)) (fun _ => rfl) a sync s
  | memW sync a v => exact busWrite_putDisk (target := memWrite a) (fun _ => rfl) a sync s
  | _ => cases hi

/-- Settles O20. TICK and a reserved word read nothing of the disk. A bus cycle opens its event first, which drops the
recorded error, and what is left of the change is another disk. -/
theorem diskErrorsTouchNothingElse : Obligations.DiskErrorsTouchNothingElse := by
  intro i s d st n e hi hinit
  obtain rfl | rfl | rfl | hb := isBusCycle_cases i
  · exact absurd rfl hinit
  · rfl
  · rfl
  · calc exec i { s with disk := d, store := st, draws := n, raised := e }
        = exec i (putDisk d st n (openEvent s)) := (exec_openEvent hb _).symm
      _ = withDisk d st n (exec i (openEvent s)) := exec_putDisk hb hi d st n _
      _ = withDisk d st n (exec i s) := by rw [exec_openEvent hb]

end Sys2Proof.Machine
end

/-! ## INIT (R330): when it is admitted (D27), and what it leaves of the backing store -/

section
namespace Sys2Proof.Machine

theorem exec_init_of_not_initOpen {s : State} (h : s.initOpen = false) : exec .init s = .refused .secondInit :=
  if_neg (ne_true_of_eq_false h)

/-- An event that has a next state leaves INIT closed: INIT itself, a TICK, and every bus cycle. -/
theorem exec_initOpen {i : Instr} {s t : State} (h : exec i s = .next t) : t.initOpen = false := by
  obtain rfl | rfl | ⟨⟨-, -, -, hclosed⟩, -⟩ := exec_next_cases h
  · rfl
  · rfl
  · exact hclosed

/-- Settles O14: every event that has a next state leaves INIT closed, and while it is closed INIT is refused. -/
theorem initOnlyAsTheFirstEvent : Obligations.InitOnlyAsTheFirstEvent :=
  ⟨fun _ => exec_init_of_not_initOpen, fun _ _ _ h => exec_init_of_not_initOpen (exec_initOpen h)⟩

/-- A store that opened holds its initial image, at its initial position (D16). -/
theorem initialState_store_of_open {s : State} (h : s.cfg.storeOpen = true) :
    (initialState s).store = { pos := s.cfg.storeInitPos, bytes := s.cfg.storeInit } := if_pos h

/-- A store that did not open is left alone. -/
theorem initialState_store_of_closed {s : State} (h : s.cfg.storeOpen = false) : (initialState s).store = s.store :=
  if_neg (ne_true_of_eq_false h)

/-- Settles O13: the next state is the one INIT constructs. Its store depends on whether the store opened; every other value
stands in its definition. -/
theorem initBuildsTheInitialState : Obligations.InitBuildsTheInitialState := by
  intro s hfirst
  refine ⟨initialState s, exec_init_of_initOpen hfirst, rfl, rfl, rfl, rfl, rfl, ?opened, initialState_store_of_closed,
    rfl, rfl, rfl, rfl, rfl, rfl, rfl⟩
  case opened =>
    intro hopen
    rw [initialState_store_of_open hopen]
    exact ⟨rfl, rfl⟩

end Sys2Proof.Machine
end

/-! ## The sample words of `95_test_vectors.md` section 2.6 (R90, R99) -/

section
namespace Sys2Proof.Machine

/-- The converse reading of the decoder's law: a canonical word decodes to the event it is the word of. -/
theorem decode_of_encode_eq {c : Config} {i : Instr} {w : EventWord} (hc : configWf c = true) (hw : encode i = w)
    (hi : WellFormed c i = true) : decode c w = i :=
  hw ▸ decodeOfEncodeIsTheEvent c i hc hi

/-- Settles O5: all sample words but the second are the canonical words of events that the reference configuration has.
The second has bits 25:0 set, which kind 01 ignores. -/
theorem sampleWordsDecode : Obligations.SampleWordsDecode := by
  refine ⟨?init, ?tick, ?diskSeek, ?diskParam2W, ?diskDataRB, ?timerTargetW, ?timerCountR, ?memW⟩
  case tick => exact decode_tick (by decide) _
  all_goals exact decode_of_encode_eq configWf_reference (by decide) (by decide)

end Sys2Proof.Machine
end
